-- ==== Sys2Proof/Word.lean ====
section
/-! DEFINITION. The words, bytes and names of things the DX410's commands and state are made of. -/

namespace Sys2Proof

/-- One register of the host window: 16 bits (R164). -/
abbrev Word := BitVec 16

/-- One column of an array row: one byte (R2). -/
abbrev Byte := BitVec 8

/-- A device number, 0 to 3 (R1). Device n is present when n is below the device count. -/
abbrev DeviceId := Fin 4

/-- A row number within a device, 0 to 1023 (R2). -/
abbrev RowNumber := Fin 1024

/-- A column within a row, 0 to 255 (R2). -/
abbrev Column := Fin 256

/-- The number of a probe context, 0 to 3 (R117). -/
abbrev ContextId := Fin 4

/-- A reserved-row index, 0 to 7 (R2, Table 1-1). -/
abbrev ReservedIndex := Fin 8

/-- A row of the array, named by its device and row number (R2). -/
structure Row where
  device : DeviceId
  number : RowNumber
  deriving DecidableEq, Repr

end Sys2Proof
end

