-- ==== Sys2Proof/Syntax.lean ====
section
/-! DEFINITION. The commands of the DX410: one constructor per row of spec/opcode_table.json, with the operands the
rules give it. A register write carries the 16-bit word written (R164). An event of the part carries what the outside
world decides about it: which timer, which straps, which temperature, which cells have decayed. -/

namespace Sys2Proof

/-- Cells of the row being read that are found to hold something else than what was last stored in them: pairs of a
column and the byte it now reads as. It is what the devices answer, not something the DX410 chooses (R11: a decayed byte
stays decayed in the row). The empty list says that every cell has held. -/
abbrev Decay := List (Column × Byte)

/-- The commands and events of the block, in the table's order. -/
inductive Instr where
  /-- RSTIN_ASSERT (R18). -/
  | rstinAssert
  /-- RSTIN_RELEASE (R166), with the levels of the straps DCNT1–DCNT0 at the release (R1). -/
  | rstinRelease (straps : BitVec 2)
  /-- POWER_UP_PAUSE_EXPIRY (R16). -/
  | powerUpPauseExpiry
  /-- INIT_CYCLE_COMPLETION (R17). -/
  | initCycleCompletion
  /-- GRANT (R26). -/
  | grant
  /-- ROW_REFRESH_COMPLETION (R74). -/
  | rowRefreshCompletion
  /-- ROW_CLOSE_COMPLETION (R6). -/
  | rowCloseCompletion
  /-- HOST_ACCESS_COMPLETION (R92), with the cells of the target row found decayed by a READ. -/
  | hostAccessCompletion (decay : Decay)
  /-- FAILED_HEAD_COMPLETION (R85). -/
  | failedHeadCompletion
  /-- COPY_BURST_COMPLETION (R106), with the cells of the source row found decayed. -/
  | copyBurstCompletion (decay : Decay)
  /-- UNWIND_END (R169). -/
  | unwindEnd
  /-- PATTERN_BURST_COMPLETION (R125). -/
  | patternBurstCompletion
  /-- CHECK_BURST_COMPLETION (R128), with the cells of the home row found decayed: only the first burst of a stage finds
  any (R127). -/
  | checkBurstCompletion (decay : Decay)
  /-- LOG_WAIT_APPEND (R147). -/
  | logWaitAppend
  /-- OPEN_ROW_TIMER_EXPIRY (R15) of one device's timer. -/
  | openRowTimerExpiry (device : DeviceId)
  /-- SLICE_TIMER_EXPIRY (R58). -/
  | sliceTimerExpiry
  /-- EXTERNAL_SENSOR_TIMEOUT (R159). -/
  | externalSensorTimeout
  /-- HELD_EXPIRY_TAKEN (R61). -/
  | heldExpiryTaken
  /-- SCAN_VISIT (R63). -/
  | scanVisit
  /-- FORCED_CLEAR (R73). -/
  | forcedClear
  /-- STRETCH_TIMER_EXPIRY (R126) of one context's timer. -/
  | stretchTimerExpiry (context : ContextId)
  /-- CONVERSION_COMPLETION (R154), with the temperature the sensor measured, in whole degrees. -/
  | conversionCompletion (measured : Int)
  /-- SOFT_RESET (R168): the word written to CTRL, whose bit 0 is the soft-reset bit. -/
  | softReset (value : Word)
  /-- RQ_POST (R82): the word written, which is ignored. -/
  | rqPost (value : Word)
  /-- STAGE_DATA (R80): two bytes, the low one first. -/
  | stageData (value : Word)
  /-- CQ_DATA (R94): a read of the register. -/
  | cqData
  /-- CQ_POP (R95): the word written, which is ignored. -/
  | cqPop (value : Word)
  /-- EVT_WRITE (R176). -/
  | evtWrite (value : Word)
  /-- EVT_MASK_WRITE (R177). -/
  | evtMaskWrite (value : Word)
  /-- CFG_TBASE_WRITE (R60). -/
  | cfgTbaseWrite (value : Word)
  /-- CFG_PAGE_WRITE (R14). -/
  | cfgPageWrite (value : Word)
  /-- CFG_EPOCH_WRITE (R49). -/
  | cfgEpochWrite (value : Word)
  /-- CFG_AGE_WRITE (R49). -/
  | cfgAgeWrite (value : Word)
  /-- CFG_WARM_WRITE (R160). -/
  | cfgWarmWrite (value : Word)
  /-- CFG_HOT_WRITE (R160). -/
  | cfgHotWrite (value : Word)
  /-- CFG_MODE_WRITE (R153). -/
  | cfgModeWrite (value : Word)
  /-- REGISTER_WRITE (R164): a write to a register without behaviour of its own, to a read-only register or to an
  unassigned address. -/
  | registerWrite (address : BitVec 6) (value : Word)
  /-- PROBE_START (R120): a write of 1 to CMD. -/
  | probeStart
  /-- PROBE_ABORT (R134): a write of 2 to CMD. -/
  | probeAbort
  /-- RETIRE (R112): a write of 3 to CMD. -/
  | retire
  /-- RECORD_READ (R172): a write of 4 to CMD. -/
  | recordRead
  /-- RECORD_WRITE (R174): a write of 5 to CMD. -/
  | recordWrite
  /-- LOG_READ (R150): a write of 6 to CMD. -/
  | logRead
  /-- LOG_POP (R151): a write of 7 to CMD. -/
  | logPop
  /-- TEMP_SUPPLY (R155): a write of 8 to CMD. -/
  | tempSupply
  /-- BAD_CMD (R170): a write to CMD of a code outside 1 to 8. -/
  | badCmd (code : Word)
  deriving DecidableEq, Repr

end Sys2Proof
end

