-- ==== Sys2Proof/Config.lean ====
section
/-! DEFINITION. What the part fixes (Table 0-2) and the one value the manual leaves undefined. -/

namespace Sys2Proof

/-- FREE VALUE (assumption 1). What the array byte at an address holds while nothing has written it since the
`cycle`-th release of RSTIN#: the manual calls array contents undefined (R18, section 1.7, R96). It has no body, so
nothing can be proved of the byte. Addresses at or above the array's size stand for the copy buffer, whose contents
are undefined at the release as well (R18, R114). -/
opaque Config.undefinedByte (cycle address : Nat) : Byte

/-- Rows per device (Table 0-2). -/
def Config.rowsPerDevice : Nat := 1024

/-- Columns per row, one byte each (Table 0-2). -/
def Config.columnsPerRow : Nat := 256

/-- Bytes of four devices: the first address that names no array byte. -/
def Config.arrayBytes : Nat := 4 * 1024 * 256

/-- Columns moved by one copy, pattern or check burst (Table 0-2). -/
def Config.burstColumns : Nat := 32

/-- Bursts that cover one row (Table 0-2). -/
def Config.burstsPerRow : Nat := 8

/-- Capacity of the request queue and of the completion queue (R81, R93). -/
def Config.queueEntries : Nat := 16

/-- Capacity of the write staging FIFO in bytes (R80). -/
def Config.stagingBytes : Nat := 64

/-- Capacity of the due queue (R69). -/
def Config.dueEntries : Nat := 512

/-- Capacity of the probe result log (R149). -/
def Config.logEntries : Nat := 8

/-- The most pending slices (R62). -/
def Config.pendingSlices : Nat := 15

/-- Slices in a pass, and the row stride of a slice scan (R57, R63). -/
def Config.slicesPerPass : Nat := 16

/-- The consecutive-host-grant count at which maintenance goes ahead (R30). -/
def Config.hostGrantLimit : Nat := 8

/-- Readings in a full thermal window (R156). -/
def Config.windowReadings : Nat := 4

/-- The pass starts without a supplied reading at which the external-sensor timeout fires (R159). -/
def Config.staleLimit : Nat := 4

/-- Timer lengths are counted in half microseconds, the largest unit in which every length of the manual is whole:
one sixteenth of a T_base of whole milliseconds is a whole number of them (R57). -/
def Config.unitsPerMicrosecond : Nat := 2

/-- Half microseconds in a millisecond. -/
def Config.unitsPerMillisecond : Nat := 2000

/-- The power-up pause, 300 µs (R16), in half microseconds. -/
def Config.pauseUnits : Nat := 600

/-- One slice period, T_base / 16 (R57), in half microseconds: T_base ms × 2000 / 16. -/
def Config.slicePeriod (tbase : Nat) : Nat := tbase * 125

/-- The length of a stretch, step × T_base (R126), in half microseconds. -/
def Config.stretchLength (step tbase : Nat) : Nat := step * tbase * Config.unitsPerMillisecond

/-- The open-row time limit of whole microseconds (R14), in half microseconds. -/
def Config.openRowLength (limit : Nat) : Nat := limit * Config.unitsPerMicrosecond

end Sys2Proof
end

