-- ==== Sys2Proof/Machine/State.lean ====
section
/-! DEFINITION. The state of the DX410 as plain data, block by block, its reset value, and the outcomes' reason types. -/

namespace Sys2Proof.Machine

open Sys2Proof

/-- Four like things, one per device, per context or per word of a group of four registers. -/
structure Quad (α : Type) where
  q0 : α
  q1 : α
  q2 : α
  q3 : α
  deriving DecidableEq, Repr

/-- A timer of the part. `expired` is EXPIRED for an open-row timer (R14) and HELD for the slice timer (R57); the other
timers never stay in it. Length and time run are in half microseconds (Config). -/
inductive Timer where
  | stopped
  | running (length elapsed : Nat)
  | expired
  deriving DecidableEq, Repr

/-- The controller state (R166). While RSTIN# is low the part is without one, which State shows as `none`. -/
inductive Controller where
  | powerup
  | init
  | ready
  | resetting
  deriving DecidableEq, Repr

/-- The host error codes of Table 10-3. -/
inductive HostError where
  | none
  | notReady
  | rqFull
  | badKind
  | stageShort
  | stageOverflow
  | cqEmptyPop
  | badConfig
  deriving DecidableEq, Repr

/-- The CMD_STATUS codes of Table 10-2. -/
inductive CommandStatus where
  | none
  | accepted
  | notReady
  | badCmd
  | badArg
  | rowBusy
  | thermal
  | noContext
  | noReserve
  | busy
  | state
  | empty
  | mode
  | reserved
  | inconsistent
  deriving DecidableEq, Repr

/-- The host interface's own state (R164, R170, R175 to R177). -/
structure HostInterface where
  /-- EVT, the ten event flags of Table 10-4. -/
  events : BitVec 10
  /-- EVT_MASK, in the same positions. -/
  mask : BitVec 10
  /-- HIRQ# driven low (R177). -/
  interrupt : Bool
  /-- HOST_ERR. -/
  error : HostError
  /-- CMD, the code last written. -/
  command : Word
  /-- CMD_STATUS. -/
  status : CommandStatus
  /-- ARG0 to ARG3. -/
  args : Quad Word
  /-- ARG4 to ARG7, the user pattern. -/
  patternArgs : Quad Word
  /-- RES0 to RES3. -/
  results : Quad Word
  /-- The word a read with an effect (CQ_DATA) last put on HD15–HD0. -/
  readData : Word
  deriving DecidableEq, Repr

/-- The configuration registers CFG_TBASE to CFG_MODE (R165). -/
structure Configuration where
  /-- T_base written, ms (R60). -/
  tbaseWritten : Nat
  /-- Page policy: true is OPEN (R14). -/
  pageOpen : Bool
  /-- Open-row time limit, µs (R14). -/
  rowLimit : Nat
  /-- Epoch divider E (R49). -/
  epochDivider : Nat
  /-- Age limit L (R49). -/
  ageLimit : Nat
  /-- WARM_ENTER, °C (R160). -/
  warmEnter : Int
  /-- HOT_ENTER, °C (R160). -/
  hotEnter : Int
  /-- Hysteresis H, °C (R153). -/
  hysteresis : Nat
  /-- Sensor mode: true is EXTERNAL (R153). -/
  external : Bool
  /-- Auto-retire enabled (R146). -/
  autoRetire : Bool
  deriving DecidableEq, Repr

/-- The kinds of host request (R79). -/
inductive RequestKind where
  | read
  | write
  | fill
  deriving DecidableEq, Repr

/-- The operation on the array port with its descriptor (R3, Table 1-2). -/
inductive PortOperation where
  | rowRefresh (row : Row)
  | rowClose (device : DeviceId)
  /-- `bytes` are those a WRITE or FILL writes, empty for a READ; `pageOpen` and `hit` are the page policy sampled and the
  classification made at the grant (R7). -/
  | hostAccess (target : Row) (kind : RequestKind) (column length : Nat) (bytes : List Byte) (pageOpen hit : Bool)
  | copyBurst (source target : Row) (burst : Nat)
  /-- `bytes` are the pattern generator's for the burst (R10). -/
  | patternBurst (context : ContextId) (row : Row) (burst : Nat) (bytes : List Byte)
  /-- `expected` are the pattern generator's bytes for the burst (R11). -/
  | checkBurst (context : ContextId) (row : Row) (burst : Nat) (expected : List Byte)
  | initCycle (row : Row)
  deriving DecidableEq, Repr

/-- What the array port keeps for one device (R13 to R15). -/
structure DeviceState where
  /-- CLOSED (`none`) or OPEN with a row. -/
  openRow : Option RowNumber
  /-- The open-row timer. -/
  timer : Timer
  /-- The close claim is raised. -/
  closeClaim : Bool
  deriving DecidableEq, Repr

/-- The array port and the arbiter's counter (chapters 1 and 2). -/
structure ArrayPort where
  /-- The operation in progress, if the port is busy (R3). -/
  operation : Option PortOperation
  devices : Quad DeviceState
  /-- The power-up pause timer (R16). -/
  pause : Timer
  /-- The initialisation sequence's cycle number n (R17). -/
  initCycle : Nat
  /-- The consecutive-host-grant count (R29). -/
  hostGrants : Nat
  deriving DecidableEq, Repr

/-- The six record statuses (section 3.2). -/
inductive RecordStatus where
  | unprofiled
  | profiled
  | suspect
  | probing
  | retired
  | reserved
  deriving DecidableEq, Repr

/-- One record of the row retention table (R37). -/
structure Record where
  status : RecordStatus
  cls : Nat
  margin : Nat
  stamp : Option Nat
  queued : Bool
  spare : Option ReservedIndex
  deriving DecidableEq, Repr

/-- An entry of the due queue (R69). -/
structure DueEntry where
  row : Row
  /-- The slice stamp: the serial of the scan that appended it. -/
  stamp : Nat
  deriving DecidableEq, Repr

/-- The scan cursor while it is not idle (R62). -/
structure ScanCursor where
  serial : Nat
  /-- The slice pass number. -/
  pass : Nat
  device : DeviceId
  row : RowNumber
  /-- The scan is paused on a full due queue (R67). -/
  paused : Bool
  deriving DecidableEq, Repr

/-- The refresh scheduler and refresh engine (Table 4-1). -/
structure Scheduler where
  sliceTimer : Timer
  serial : Nat
  pass : Nat
  epoch : Nat
  /-- T_base in force, ms. -/
  tbase : Nat
  pendingSlices : Nat
  cursor : Option ScanCursor
  due : List DueEntry
  forced : Bool
  /-- The refresh engine is REFRESHING (R74). -/
  refreshing : Bool
  deriving DecidableEq, Repr

/-- An entry of the request queue (R81). -/
structure Request where
  tag : BitVec 8
  kind : RequestKind
  row : Row
  column : Nat
  length : Nat
  fill : Option Byte
  data : Option (List Byte)
  deriving DecidableEq, Repr

/-- The completion statuses of R93. -/
inductive CompletionStatus where
  | ok
  | bounds
  | nodev
  | reserved
  deriving DecidableEq, Repr

/-- An entry of the completion queue (R93). -/
structure Completion where
  tag : BitVec 8
  status : CompletionStatus
  redirected : Bool
  length : Nat
  data : Option (List Byte)
  deriving DecidableEq, Repr

/-- The access record of the access in progress (R90). -/
structure AccessRecord where
  target : Row
  redirected : Bool
  discarded : Bool
  deriving DecidableEq, Repr

/-- The request engine (Table 5-1). -/
structure RequestEngine where
  /-- Request field registers (R79), at the widths of Table 10-5. -/
  kindField : BitVec 3
  deviceField : BitVec 2
  rowField : BitVec 10
  columnField : BitVec 8
  lengthField : BitVec 9
  tagField : BitVec 8
  fillField : BitVec 8
  /-- The write staging FIFO, head first (R80). -/
  staging : List Byte
  /-- The request queue, head first (R81). -/
  requests : List Request
  access : Option AccessRecord
  /-- The completion queue, head first (R93). -/
  completions : List Completion
  /-- The completion data cursor (R94). -/
  cursor : Nat
  deriving DecidableEq, Repr

/-- The states of a redirect entry, with its kind (R99). -/
inductive RedirectState where
  | parkCopying
  | parkHeld
  | parkRestoring
  | spareCopying
  | spareActive
  deriving DecidableEq, Repr

/-- Who owns a redirect entry or a copy job: a probe context or the command unit (R99, R104). -/
inductive Owner where
  | context (k : ContextId)
  | command
  deriving DecidableEq, Repr

/-- An entry of the redirect table. Its reserved index is its key in the table (R99, R100). -/
structure RedirectEntry where
  home : Row
  state : RedirectState
  owner : Owner
  deriving DecidableEq, Repr

/-- The kinds of copy job (R104). -/
inductive JobKind where
  | park
  | restore
  | retire
  deriving DecidableEq, Repr

/-- A copy job (R104). -/
structure CopyJob where
  kind : JobKind
  home : Row
  index : ReservedIndex
  owner : Owner
  progress : Nat
  deriving DecidableEq, Repr

/-- The copy engine's states (R106). COPYING says whether the job of the burst on the port has been abandoned meanwhile
(R111). -/
inductive CopyEngineState where
  | idle
  | copying (abandoned : Bool)
  deriving DecidableEq, Repr

/-- The copy engine (Table 6-1). -/
structure CopyEngine where
  queue : List CopyJob
  engine : CopyEngineState
  /-- The 32-byte copy buffer. -/
  buffer : List Byte
  /-- The retire outstanding (R112). -/
  retire : Option (Row × ReservedIndex)
  deriving DecidableEq, Repr

/-- The states of a probe context (R118). -/
inductive ContextState where
  | idle
  | parking
  | writing
  | stretch
  | checking
  | restoring
  | done
  deriving DecidableEq, Repr

/-- The probe modes (R119). -/
inductive ProbeMode where
  | search
  | check
  deriving DecidableEq, Repr

/-- The patterns (R121). -/
inductive Pattern where
  | solid0
  | solid1
  | checker
  | lfsr
  | user
  deriving DecidableEq, Repr

/-- The abort reasons (Table 7-1). -/
inductive AbortReason where
  | host
  | thermal
  | reset
  deriving DecidableEq, Repr

/-- The record saved at park done (R51). -/
structure PriorRecord where
  status : RecordStatus
  cls : Nat
  margin : Nat
  /-- The age at park done, for a PROFILED record. -/
  age : Option Nat
  deriving DecidableEq, Repr

/-- The outcomes of Table 8-1. -/
inductive OutcomeName where
  | profiled
  | revalidated
  | demoted
  | suspect
  | retired
  | aborted
  deriving DecidableEq, Repr

/-- The record a finished probe's outcome gives (R140). -/
structure OutcomeRecord where
  status : RecordStatus
  cls : Nat
  margin : Nat
  /-- For PROFILED: the stamp is renewed. -/
  renewStamp : Bool
  deriving DecidableEq, Repr

/-- A pending outcome (R140): its name and, unless it is ABORTED, the record it gives. -/
structure PendingOutcome where
  name : OutcomeName
  record : Option OutcomeRecord
  deriving DecidableEq, Repr

/-- A probe context (Table 7-1) with its LFSR register (R122: bit n of the manual is bit n − 1 here). -/
structure ProbeContext where
  state : ContextState
  target : Row
  mode : ProbeMode
  pattern : Pattern
  seed : Word
  userPattern : Option (List Byte)
  trials : Nat
  step : Nat
  trial : Nat
  parkIndex : ReservedIndex
  burstsDone : Nat
  mismatch : Nat
  firstFailing : Option Nat
  lastPassed : Nat
  failingStep : Option Nat
  failingMismatch : Nat
  prior : Option PriorRecord
  stretchTimer : Timer
  abortReason : Option AbortReason
  outcome : Option PendingOutcome
  lfsr : BitVec 15
  deriving DecidableEq, Repr

/-- An entry of the probe result log (R148). -/
structure LogEntry where
  context : ContextId
  row : Row
  mode : ProbeMode
  outcome : OutcomeName
  newClass : Option Nat
  margin : Nat
  failingStep : Option Nat
  mismatch : Nat
  firstFailing : Option Nat
  abortReason : Option AbortReason
  deriving DecidableEq, Repr

/-- The probe engine (chapters 7 and 8). -/
structure ProbeEngine where
  contexts : Quad ProbeContext
  /-- The probe result log, head first (R149). -/
  log : List LogEntry
  /-- The log wait order, head first (R147). -/
  waiting : List ContextId
  deriving DecidableEq, Repr

/-- The thermal states (R157). -/
inductive ThermalState where
  | normal
  | warm
  | hot
  deriving DecidableEq, Repr

/-- The on-chip sensor's conversion (R154). -/
inductive Conversion where
  | idle
  | converting (discard : Bool)
  deriving DecidableEq, Repr

/-- The temperature supervisor (Table 9-1); its configuration stands in Configuration. -/
structure Supervisor where
  conversion : Conversion
  /-- The reading window, oldest first (R156). -/
  window : List Int
  thermal : ThermalState
  /-- The external staleness count (R159). -/
  stale : Nat
  lastReading : Option Int
  deriving DecidableEq, Repr

/-- The whole state of the block, its attached array's contents among it. -/
structure State where
  /-- The controller state, `none` while RSTIN# is low (R166). -/
  controller : Option Controller
  /-- The device count, 1 to 4 (R1). -/
  deviceCount : Nat
  host : HostInterface
  config : Configuration
  port : ArrayPort
  /-- The row retention table: the records that differ from their power-on value, by device × 1024 + row (R36, R55). -/
  records : List (Nat × Record)
  scheduler : Scheduler
  requests : RequestEngine
  /-- The redirect table, by reserved index (R99). -/
  redirects : List (Nat × RedirectEntry)
  copy : CopyEngine
  probes : ProbeEngine
  supervisor : Supervisor
  /-- The bytes of the attached array written since the last release of RSTIN#, by
  (device × 1024 + row) × 256 + column (R2). -/
  array : List Host.Cell
  /-- MODEL's own: the number of releases of RSTIN#, which selects the free values of the array (assumption 1). -/
  powerCycle : Nat
  /-- MODEL's own: the commands that wait, first in first out. -/
  pending : List Instr
  deriving DecidableEq, Repr

/-- The reasons for which a step stops the machine: there are none. The manual gives every command an effect in every
state: where it names no effect the command is refused to the host in CMD_STATUS or HOST_ERR, or ignored (R164, R167). -/
inductive Fault
  deriving DecidableEq, Repr

/-- The reasons for which a command has no meaning. -/
inductive Refusal where
  /-- Raised by an arm of `exec` whose command has no meaning yet, by the table's mnemonic. No arm raises it now. Safe: the
  machine stops where the hardware goes on. -/
  | notModelled (mnemonic : String)
  deriving DecidableEq, Repr

/-- A device after the release of RSTIN#: CLOSED, timer STOPPED, no close claim (R18). -/
def DeviceState.atReset : DeviceState :=
  { openRow := none, timer := .stopped, closeClaim := false }

/-- A probe context after the release of RSTIN# (R117). The LFSR register's value is the model's choice
(assumption 3). -/
def ProbeContext.atReset : ProbeContext :=
  { state := .idle, target := { device := 0, number := 0 }, mode := .search, pattern := .solid0, seed := 0,
    userPattern := none, trials := 1, step := 1, trial := 1, parkIndex := 0, burstsDone := 0, mismatch := 0,
    firstFailing := none, lastPassed := 0, failingStep := none, failingMismatch := 0, prior := none,
    stretchTimer := .stopped, abortReason := none, outcome := none, lfsr := 0 }

/-- Four copies of one value. -/
def Quad.all {α : Type} (a : α) : Quad α :=
  { q0 := a, q1 := a, q2 := a, q3 := a }

/-- The host interface after the release of RSTIN# (Table 10-1). -/
def HostInterface.atReset : HostInterface :=
  { events := 0, mask := 0, interrupt := false, error := .none, command := 0, status := .none, args := Quad.all 0,
    patternArgs := Quad.all 0, results := Quad.all 0, readData := 0 }

/-- The configuration after the release of RSTIN# (Table 10-1). -/
def Configuration.atReset : Configuration :=
  { tbaseWritten := 64, pageOpen := false, rowLimit := 60, epochDivider := 64, ageLimit := 100, warmEnter := 70,
    hotEnter := 85, hysteresis := 5, external := false, autoRetire := false }

/-- The array port after the release of RSTIN#: free, every device closed, the pause timer started (R16, R18, R34). -/
def ArrayPort.atReset : ArrayPort :=
  { operation := none, devices := Quad.all DeviceState.atReset, pause := .running Config.pauseUnits 0, initCycle := 0,
    hostGrants := 0 }

/-- The refresh scheduler after the release of RSTIN# (R76). -/
def Scheduler.atReset : Scheduler :=
  { sliceTimer := .stopped, serial := 65535, pass := 0, epoch := 0, tbase := 64, pendingSlices := 0, cursor := none,
    due := [], forced := false, refreshing := false }

/-- The request engine after the release of RSTIN# (R96). -/
def RequestEngine.atReset : RequestEngine :=
  { kindField := 0, deviceField := 0, rowField := 0, columnField := 0, lengthField := 0, tagField := 0, fillField := 0,
    staging := [], requests := [], access := none, completions := [], cursor := 0 }

/-- The copy engine after the release of RSTIN# (R114). The manual calls the copy buffer's contents undefined: 32 zero
bytes are the model's choice for this one state (assumption 3). -/
def CopyEngine.atReset : CopyEngine :=
  { queue := [], engine := .idle, buffer := List.replicate 32 0, retire := none }

/-- The probe engine after the release of RSTIN# (R117, R147, R149). -/
def ProbeEngine.atReset : ProbeEngine :=
  { contexts := Quad.all ProbeContext.atReset, log := [], waiting := [] }

/-- The temperature supervisor after the release of RSTIN# (R161). -/
def Supervisor.atReset : Supervisor :=
  { conversion := .idle, window := [], thermal := .hot, stale := 0, lastReading := none }

/-- The part right after the power-on reset, the release of RSTIN# with both straps low (the straps are the model's
choice, assumption 2). -/
def State.reset : State :=
  { controller := some .powerup, deviceCount := 1, host := HostInterface.atReset, config := Configuration.atReset,
    port := ArrayPort.atReset, records := [], scheduler := Scheduler.atReset, requests := RequestEngine.atReset,
    redirects := [], copy := CopyEngine.atReset, probes := ProbeEngine.atReset, supervisor := Supervisor.atReset,
    array := [], powerCycle := 0, pending := [] }

end Sys2Proof.Machine
end

