-- ==== Sys2Proof/Machine/Store.lean ====
section
/-! DEFINITION. The two containers of the state: four like things by number, and sparse tables by a key in one canonical
form (keys strictly rising). -/

namespace Sys2Proof.Machine

open Sys2Proof

/-- The i-th of four. -/
def Quad.get {α : Type} (q : Quad α) (i : Fin 4) : α :=
  match i with
  | 0 => q.q0
  | 1 => q.q1
  | 2 => q.q2
  | 3 => q.q3

/-- The four with the i-th replaced. -/
def Quad.set {α : Type} (q : Quad α) (i : Fin 4) (a : α) : Quad α :=
  match i with
  | 0 => { q with q0 := a }
  | 1 => { q with q1 := a }
  | 2 => { q with q2 := a }
  | 3 => { q with q3 := a }

/-- The value a sparse table lists at a key. -/
def Sparse.find {α : Type} (k : Nat) : List (Nat × α) → Option α
  | [] => none
  | (j, v) :: rest => if k = j then some v else Sparse.find k rest

/-- A sparse table with the value at a key replaced or added, keys staying in rising order. -/
def Sparse.insert {α : Type} (k : Nat) (v : α) : List (Nat × α) → List (Nat × α)
  | [] => [(k, v)]
  | (j, w) :: rest =>
    if k < j then (k, v) :: (j, w) :: rest
    else if k = j then (k, v) :: rest
    else (j, w) :: Sparse.insert k v rest

/-- A sparse table without a key. -/
def Sparse.erase {α : Type} (k : Nat) (table : List (Nat × α)) : List (Nat × α) :=
  table.filter (fun entry => decide (entry.1 ≠ k))

/-- The keys of a table rise strictly: its canonical form. -/
abbrev Sparse.rising {α : Type} (table : List (Nat × α)) : Prop :=
  table.Pairwise (fun p q => p.1 < q.1)

end Sys2Proof.Machine
end

