-- ==== Sys2Proof/Machine/Flags.lean ====
section
/-! DEFINITION. The event flags, the interrupt output and the two error registers (R175 to R177). -/

namespace Sys2Proof.Machine

open Sys2Proof

/-- The ten event flags (Table 10-4). -/
inductive EventFlag where
  | initDone
  | resetDone
  | cqReady
  | hostError
  | logReady
  | retireDone
  | thermalChange
  | sensorStale
  | overrun
  | ageDemote
  deriving DecidableEq, Repr

/-- The bit of a flag in EVT and EVT_MASK (Table 10-4). -/
def EventFlag.bit : EventFlag → Nat
  | .initDone => 0
  | .resetDone => 1
  | .cqReady => 2
  | .hostError => 3
  | .logReady => 4
  | .retireDone => 5
  | .thermalChange => 6
  | .sensorStale => 7
  | .overrun => 8
  | .ageDemote => 9

/-- The word with the flag's bit alone. -/
def EventFlag.word (flag : EventFlag) : BitVec 10 :=
  1#10 <<< flag.bit

/-- HIRQ# re-evaluated: asserted exactly while some flag and its mask bit are both set (R177). -/
def HostInterface.evaluate (host : HostInterface) : HostInterface :=
  { host with interrupt := decide (host.events &&& host.mask ≠ 0) }

/-- A flag raised: it is set and stays set (R176), and HIRQ# is re-evaluated (R177). -/
def raiseEvent (flag : EventFlag) (s : State) : State :=
  { s with host := HostInterface.evaluate { s.host with events := s.host.events ||| flag.word } }

/-- A host error recorded: HOST_ERR takes the code and HOST_ERROR is raised (R175). -/
def recordHostError (code : HostError) (s : State) : State :=
  raiseEvent .hostError { s with host := { s.host with error := code } }

/-- CMD_STATUS takes a code (R170). -/
def setCommandStatus (code : CommandStatus) (s : State) : State :=
  { s with host := { s.host with status := code } }

/-- All four result registers written (R170). -/
def setResults (r0 r1 r2 r3 : Word) (s : State) : State :=
  { s with host := { s.host with results := { q0 := r0, q1 := r1, q2 := r2, q3 := r3 } } }

/-- Some register of the part is read or written: RSTIN# is high (R164: while it is low, reads return 0 and writes are
ignored). -/
def running (s : State) : Bool :=
  s.controller.isSome

/-- A command that has no effect while RSTIN# is low. -/
def whenRunning (effect : State → State) (s : State) : State :=
  if running s then effect s else s

/-- The controller is READY. -/
def isReady (s : State) : Bool :=
  s.controller == some .ready

end Sys2Proof.Machine
end

