-- ==== Sys2Proof/Machine/Operands.lean ====
section
/-! DEFINITION. The words of the register window: every field layout of section 10.8 and the code values of Tables 10-2 to
10-8a, read and written. -/

namespace Sys2Proof.Machine

open Sys2Proof

/-- The field of `width` bits of a word whose lowest bit is bit `low`. -/
def bits (w : Word) (low width : Nat) : Nat :=
  w.toNat / 2 ^ low % 2 ^ width

/-- A Bool as a bit. -/
def bit (b : Bool) : Nat :=
  if b then 1 else 0

/-- A register word from the sum of its fields. -/
def wordOf (n : Nat) : Word :=
  BitVec.ofNat 16 n

/-- A signed quantity held in two's complement over 16 bits (Table 10-1, note). -/
def signedWord (i : Int) : Word :=
  BitVec.ofInt 16 i

/-- The row named by a word in the layout of word 3 of Table 10-7. -/
def rowOperand (w : Word) : Row :=
  { device := Fin.ofNat 4 (bits w 12 2), number := Fin.ofNat 1024 (bits w 0 10) }

/-- The word that names a row, word 3 of Table 10-7. -/
def rowWord (r : Row) : Word :=
  wordOf (r.number.val + r.device.val * 4096)

/-- Controller state codes (Table 10-8a). -/
def Controller.code : Controller → Nat
  | .powerup => 0
  | .init => 1
  | .ready => 2
  | .resetting => 3

/-- Thermal state codes (Table 10-8a). -/
def ThermalState.code : ThermalState → Nat
  | .normal => 0
  | .warm => 1
  | .hot => 2

/-- Host error codes (Table 10-3). -/
def HostError.code : HostError → Nat
  | .none => 0
  | .notReady => 1
  | .rqFull => 2
  | .badKind => 3
  | .stageShort => 4
  | .stageOverflow => 5
  | .cqEmptyPop => 6
  | .badConfig => 7

/-- CMD_STATUS codes (Table 10-2). -/
def CommandStatus.code : CommandStatus → Nat
  | .none => 0
  | .accepted => 1
  | .notReady => 2
  | .badCmd => 3
  | .badArg => 4
  | .rowBusy => 5
  | .thermal => 6
  | .noContext => 7
  | .noReserve => 8
  | .busy => 9
  | .state => 10
  | .empty => 11
  | .mode => 12
  | .reserved => 13
  | .inconsistent => 14

/-- Completion status codes (Table 10-6). -/
def CompletionStatus.code : CompletionStatus → Nat
  | .ok => 0
  | .bounds => 1
  | .nodev => 2
  | .reserved => 3

/-- The request kind a kind field names; the codes 3 to 7 are unassigned (Table 10-5). -/
def RequestKind.ofField (k : BitVec 3) : Option RequestKind :=
  match k.toNat with
  | 0 => some .read
  | 1 => some .write
  | 2 => some .fill
  | _ => none

/-- CQ_STAT while a completion is the head (Table 10-6). -/
def completionWord (c : Completion) : Word :=
  wordOf (c.length + c.status.code * 4096 + bit c.redirected * 16384 + 32768)

/-- Record status codes (Table 10-7). -/
def RecordStatus.code : RecordStatus → Nat
  | .unprofiled => 0
  | .profiled => 1
  | .suspect => 2
  | .probing => 3
  | .retired => 4
  | .reserved => 5

/-- A record in the layout of Table 10-7 (R172): an absent stamp or spare index reads with its present bit clear and its
value 0. -/
def recordWords (r : Row) (record : Record) : Quad Word :=
  { q0 := wordOf (record.status.code + record.cls * 16 + record.margin * 256 + bit record.queued * 32768)
    q1 := wordOf (record.stamp.getD 0 + bit record.stamp.isSome * 32768)
    q2 := wordOf ((record.spare.map Fin.val).getD 0 + bit record.spare.isSome * 32768)
    q3 := rowWord r }

/-- The status a RECORD WRITE may name; every other code is BAD_ARG (R173). -/
def writableStatus (code : Nat) : Option RecordStatus :=
  match code with
  | 0 => some .unprofiled
  | 1 => some .profiled
  | 2 => some .suspect
  | 4 => some .retired
  | _ => none

/-- The record RECORD WRITE takes from ARG0 to ARG3 (R173, Table 10-7). The stamp, queued and present bits are not
read. -/
structure RecordOperand where
  row : Row
  status : Option RecordStatus
  cls : Nat
  margin : Nat
  spare : ReservedIndex
  deriving DecidableEq, Repr

/-- RECORD WRITE's operand from its argument registers. -/
def recordOperand (args : Quad Word) : RecordOperand :=
  { row := rowOperand args.q3
    status := writableStatus (bits args.q0 0 3)
    cls := bits args.q0 4 2
    margin := bits args.q0 8 5
    spare := Fin.ofNat 8 (bits args.q2 0 3) }

/-- Probe mode codes (R171): 2 and 3 are invalid. -/
def ProbeMode.ofCode : Nat → Option ProbeMode
  | 0 => some .search
  | 1 => some .check
  | _ => none

/-- Pattern codes (R171): 5 to 7 are unknown. -/
def Pattern.ofCode : Nat → Option Pattern
  | 0 => some .solid0
  | 1 => some .solid1
  | 2 => some .checker
  | 3 => some .lfsr
  | 4 => some .user
  | _ => none

/-- The low and the high byte of a word. -/
def wordBytes (w : Word) : List Byte :=
  [w.extractLsb' 0 8, w.extractLsb' 8 8]

/-- The arguments of PROBE START (R119, R171). -/
structure ProbeOperand where
  target : Row
  mode : Option ProbeMode
  pattern : Option Pattern
  trials : Nat
  step : Nat
  seed : Word
  userPattern : List Byte
  deriving DecidableEq, Repr

/-- PROBE START's operand from its argument registers: byte 2i of the user pattern is the low byte of ARG(4 + i). -/
def probeOperand (args patternArgs : Quad Word) : ProbeOperand :=
  { target := rowOperand args.q3
    mode := ProbeMode.ofCode (bits args.q0 4 2)
    pattern := Pattern.ofCode (bits args.q0 0 3)
    trials := bits args.q0 8 3
    step := bits args.q0 11 5
    seed := args.q1
    userPattern := wordBytes patternArgs.q0 ++ wordBytes patternArgs.q1 ++ wordBytes patternArgs.q2
      ++ wordBytes patternArgs.q3 }

/-- Probe mode codes in a log word (Table 10-8). -/
def ProbeMode.code : ProbeMode → Nat
  | .search => 0
  | .check => 1

/-- Outcome codes (Table 10-8). -/
def OutcomeName.code : OutcomeName → Nat
  | .profiled => 0
  | .revalidated => 1
  | .demoted => 2
  | .suspect => 3
  | .retired => 4
  | .aborted => 5

/-- Abort reason codes (Table 10-8): 0 absent, 1 HOST, 2 THERMAL. An entry with reason RESET is never built (R148). -/
def abortReasonCode : Option AbortReason → Nat
  | some .host => 1
  | some .thermal => 2
  | some .reset => 0
  | none => 0

/-- A log entry in the layout of Table 10-8. -/
def logWords (e : LogEntry) : Quad Word :=
  { q0 := wordOf (e.context.val + e.mode.code * 4 + e.outcome.code * 16 + e.newClass.getD 0 * 256
      + bit e.newClass.isSome * 1024 + abortReasonCode e.abortReason * 4096)
    q1 := rowWord e.row
    q2 := wordOf (e.margin + e.failingStep.getD 0 * 256 + bit e.firstFailing.isSome * 16384
      + bit e.failingStep.isSome * 32768)
    q3 := wordOf (e.mismatch + e.firstFailing.getD 0 * 256) }

end Sys2Proof.Machine
end

