-- ==== Sys2Proof/Machine/Ops.lean ====
section
/-! DEFINITION. The named operations over the array, the retention table, the due queue, the redirect table and the
contexts, which the commands' meanings share. -/

namespace Sys2Proof.Machine

open Sys2Proof

/-! ### Rows and the array's bytes -/

/-- A row's key in the retention table (R36). -/
def rowKey (r : Row) : Nat :=
  r.device.val * 1024 + r.number.val

/-- The address of a byte of the array (R2). -/
def byteAddress (r : Row) (column : Nat) : Nat :=
  rowKey r * 256 + column

/-- The row is row 1022 or 1023 of its device (R2). -/
def isReservedRow (r : Row) : Bool :=
  decide (1022 ≤ r.number.val)

/-- The device is present (R1). -/
def devicePresent (s : State) (d : DeviceId) : Bool :=
  decide (d.val < s.deviceCount)

/-- The reserved row of an index: row 1022 + (i mod 2) of device i div 2 (R2, Table 1-1). -/
def reservedRow (i : ReservedIndex) : Row :=
  { device := Fin.ofNat 4 (i.val / 2), number := Fin.ofNat 1024 (1022 + i.val % 2) }

/-- The canonical form of the array's contents: addresses rising, each one a byte of the four devices. An unlisted
address holds no known value; reading it gives the free value (assumption 1). -/
abbrev Memory.wf (m : List Host.Cell) : Prop :=
  Sparse.rising m ∧ ∀ c ∈ m, c.1 < Config.arrayBytes

/-- Bytes stored at rising addresses. -/
def Memory.writeBytes (address : Nat) : List Byte → List Host.Cell → List Host.Cell
  | [], m => m
  | b :: rest, m => Memory.writeBytes (address + 1) rest (Sparse.insert address b m)

/-- The byte the array holds at a column of a row. -/
def readByte (s : State) (r : Row) (column : Nat) : Byte :=
  (Sparse.find (byteAddress r column) s.array).getD (Config.undefinedByte s.powerCycle (byteAddress r column))

/-- `n` bytes of a row in ascending column order (R8). -/
def readBytes (s : State) (r : Row) (column n : Nat) : List Byte :=
  (List.range n).map (fun i => readByte s r (column + i))

/-- Bytes written to a row in ascending column order, within the row's 256 columns (R8). -/
def writeBytes (r : Row) (column : Nat) (bytes : List Byte) (s : State) : State :=
  { s with array := Memory.writeBytes (byteAddress r column) (bytes.take (Config.columnsPerRow - column)) s.array }

/-- The cells of a row that are found decayed when it is read hold from then on what they now read as (R11). -/
def applyDecay (r : Row) (decay : Decay) (s : State) : State :=
  { s with
    array := decay.foldl (fun m cell => Sparse.insert (byteAddress r cell.1.val) cell.2 m) s.array }

/-! ### Devices, timers and the port -/

/-- What the port keeps for a device. -/
def deviceState (s : State) (d : DeviceId) : DeviceState :=
  s.port.devices.get d

/-- A device's port state replaced. -/
def setDevice (d : DeviceId) (v : DeviceState) (s : State) : State :=
  { s with port := { s.port with devices := s.port.devices.set d v } }

/-- The open-row effects of a grant on a device it addresses: its open-row timer stops and its close claim, if raised, is
withdrawn or consumed (R6, R14, R15, R26). -/
def stopOpenRowTimer (d : DeviceId) (s : State) : State :=
  setDevice d { deviceState s d with timer := .stopped, closeClaim := false } s

/-- A device CLOSED at the completion of an operation that addressed it (R13). -/
def closeDevice (d : DeviceId) (s : State) : State :=
  setDevice d { deviceState s d with openRow := none } s

/-- The port takes an operation (R3). -/
def occupyPort (op : PortOperation) (s : State) : State :=
  { s with port := { s.port with operation := some op } }

/-- The port becomes free at a completion event (R4). -/
def freePort (s : State) : State :=
  { s with port := { s.port with operation := none } }

/-- The devices a port operation addresses (Table 1-2). -/
def PortOperation.devices : PortOperation → List DeviceId
  | .rowRefresh row => [row.device]
  | .rowClose device => [device]
  | .hostAccess target _ _ _ _ _ _ => [target.device]
  | .copyBurst source target _ => [source.device, target.device]
  | .patternBurst _ row _ _ => [row.device]
  | .checkBurst _ row _ _ => [row.device]
  | .initCycle row => [row.device]

/-- The rows a port operation activates (R31). -/
def PortOperation.activates : PortOperation → List Row
  | .rowRefresh row => [row]
  | .rowClose _ => []
  | .hostAccess target _ _ _ _ _ hit => if hit then [] else [target]
  | .copyBurst source target _ => [source, target]
  | .patternBurst _ row _ _ => [row]
  | .checkBurst _ row _ _ => [row]
  | .initCycle row => [row]

/-- The pin ASELn is active: the operation in progress addresses device n (R1, R16, R18). DESIGN CHOICE (assumption 24): the
manual says only that the line marks the recipient of a command, not when within an operation it is active; here it is
active from the grant to the completion, for both devices of a COPY BURST at once. -/
def selectActive (s : State) (d : DeviceId) : Bool :=
  match s.port.operation with
  | none => false
  | some op => op.devices.contains d

/-! ### The retention table -/

/-- A record's value at the release of RSTIN# (R55). -/
def powerOnRecord (r : Row) : Record :=
  { status := if isReservedRow r then .reserved else .unprofiled, cls := 0, margin := 0, stamp := none, queued := false,
    spare := none }

/-- The record of a row (R36). -/
def recordOf (s : State) (r : Row) : Record :=
  (Sparse.find (rowKey r) s.records).getD (powerOnRecord r)

/-- A record changed completely in one event (R37), the table keeping its canonical form. -/
def setRecord (r : Row) (record : Record) (s : State) : State :=
  { s with
    records :=
      if record = powerOnRecord r then Sparse.erase (rowKey r) s.records
      else Sparse.insert (rowKey r) record s.records }

/-- The class allowed by a margin, none for a weak row (R44, Table 3-4a). -/
def allowedClass (margin : Nat) : Option Nat :=
  if margin < 2 then none
  else if margin < 4 then some 0
  else if margin < 8 then some 1
  else if margin < 16 then some 2
  else some 3

/-- A class is within the one its margin allows (R45). -/
def classAllowed (cls margin : Nat) : Bool :=
  match allowedClass margin with
  | none => false
  | some k => decide (cls ≤ k)

/-- The age of a stamp: (epoch − stamp) mod 256 (R48). -/
def ageOf (epoch stamp : Nat) : Nat :=
  (epoch + 256 - stamp % 256) % 256

/-- The thermal cap (R46). -/
def thermalCap : ThermalState → Nat
  | .normal => 3
  | .warm => 1
  | .hot => 0

/-- The effective class: the smaller of the class and the thermal cap (R46). -/
def effectiveClass (thermal : ThermalState) (record : Record) : Nat :=
  min record.cls (thermalCap thermal)

/-! ### The due queue (section 4.3) -/

/-- A due entry is urgent: its slice stamp differs from the current serial (R71). -/
def isUrgent (s : State) (e : DueEntry) : Bool :=
  decide (e.stamp ≠ s.scheduler.serial)

/-- Both conditions for the end of FORCED hold (R73): no urgent entry in the due queue, and no pending slice. -/
def forcedMayClear (s : State) : Bool :=
  s.scheduler.due.all (fun e => !isUrgent s e) && s.scheduler.pendingSlices == 0

/-- The test for the end of FORCED (R73). -/
def testForced (s : State) : State :=
  if s.scheduler.forced && forcedMayClear s then { s with scheduler := { s.scheduler with forced := false } } else s

/-- A scan paused on a full due queue resumes once the queue holds fewer than 512 entries (R67). DEDUCED (assumption 25):
the departure ends the pause, and the visit made again is an event of its own (R63), before whose completion a further departure
may come (R78): the next SCAN_VISIT. -/
def resumeScan (s : State) : State :=
  if s.scheduler.due.length < Config.dueEntries then
    { s with
      scheduler := { s.scheduler with cursor := s.scheduler.cursor.map (fun c => { c with paused := false }) } }
  else s

/-- A row's entry leaves the due queue, from whatever position: the queued flag is cleared, a paused scan resumes and the
test for the end of FORCED is made (R70). -/
def departDue (r : Row) (s : State) : State :=
  testForced (resumeScan (setRecord r { recordOf s r with queued := false }
    { s with scheduler := { s.scheduler with due := s.scheduler.due.filter (fun e => decide (e.row ≠ r)) } }))

/-- The row's entry, if it has one, leaves the due queue (R31, R109, R123, R174). -/
def departIfQueued (r : Row) (s : State) : State :=
  if (recordOf s r).queued then departDue r s else s

/-! ### The redirect table (section 6.1) -/

/-- The redirect entry at a reserved index. -/
def redirectAt (s : State) (i : ReservedIndex) : Option RedirectEntry :=
  Sparse.find i.val s.redirects

/-- The redirect entry of a home row, with its reserved index (R99). -/
def redirectOf (s : State) (home : Row) : Option (ReservedIndex × RedirectEntry) :=
  (s.redirects.find? (fun p => decide (p.2.home = home))).map (fun p => (Fin.ofNat 8 p.1, p.2))

/-- A row has a redirect entry. -/
def hasRedirect (s : State) (home : Row) : Bool :=
  (redirectOf s home).isSome

/-- An entry created or changed at a reserved index. -/
def setRedirect (i : ReservedIndex) (e : RedirectEntry) (s : State) : State :=
  { s with redirects := Sparse.insert i.val e s.redirects }

/-- The entry at a reserved index removed; the reserved row becomes free. -/
def removeRedirect (i : ReservedIndex) (s : State) : State :=
  { s with redirects := Sparse.erase i.val s.redirects }

/-- The entry at a reserved index, if there is one, takes a state. -/
def changeRedirect (i : ReservedIndex) (state : RedirectState) (owner : Owner) (s : State) : State :=
  match redirectAt s i with
  | none => s
  | some e => setRedirect i { e with state := state, owner := owner } s

/-- The entry is a PARK entry (R99). -/
def RedirectState.isPark : RedirectState → Bool
  | .parkCopying => true
  | .parkHeld => true
  | .parkRestoring => true
  | .spareCopying => false
  | .spareActive => false

/-- The reserved-row index exists: it is below 2 × device count (R2). -/
def indexExists (s : State) (i : ReservedIndex) : Bool :=
  decide (i.val < 2 * s.deviceCount)

/-- A reserved row of a present device that no entry names is free (R99). -/
def indexFree (s : State) (i : ReservedIndex) : Bool :=
  indexExists s i && (redirectAt s i).isNone

/-- The eight reserved-row indices in order. -/
def allIndices : List ReservedIndex :=
  [0, 1, 2, 3, 4, 5, 6, 7]

/-- The allocation of a reserved row for a home row on a device: the lowest free one on another device, else the lowest
free one (R101). -/
def allocateIndex (s : State) (d : DeviceId) : Option ReservedIndex :=
  match allIndices.find? (fun i => indexFree s i && decide ((reservedRow i).device ≠ d)) with
  | some i => some i
  | none => allIndices.find? (fun i => indexFree s i)

/-- Where the redirect lookup sends a request (R87). -/
inductive Lookup where
  | home
  | reserved (i : ReservedIndex)
  | held
  deriving DecidableEq, Repr

/-- The redirect lookup for a row (R87). -/
def lookup (s : State) (home : Row) : Lookup :=
  match redirectOf s home with
  | none => .home
  | some (i, e) =>
    match e.state with
    | .parkCopying => .held
    | .parkRestoring => .held
    | .spareCopying => .held
    | .parkHeld => .reserved i
    | .spareActive => .reserved i

/-! ### The probe contexts -/

/-- A probe context. -/
def contextOf (s : State) (k : ContextId) : ProbeContext :=
  s.probes.contexts.get k

/-- A probe context replaced. -/
def setContext (k : ContextId) (c : ProbeContext) (s : State) : State :=
  { s with probes := { s.probes with contexts := s.probes.contexts.set k c } }

/-- The four context numbers in ascending order. -/
def allContexts : List ContextId :=
  [0, 1, 2, 3]

/-- The four device numbers in ascending order. -/
def allDevices : List DeviceId :=
  [0, 1, 2, 3]

end Sys2Proof.Machine
end

