-- ==== Sys2Proof/Machine/PatternGenerator.lean ====
section
/-! DEFINITION. The pattern generator (section 7.3). -/

namespace Sys2Proof.Machine

open Sys2Proof

/-- The LFSR register's load value for a seed and a row: the low 15 bits of seed XOR (d × 1024 + r), or 1 if they are all
zero (R122). Register bit n of the manual is bit n − 1 here. -/
def lfsrLoad (seed : Word) (r : Row) : BitVec 15 :=
  let v := (seed ^^^ BitVec.ofNat 16 (rowKey r)).setWidth 15
  if v = 0 then 1 else v

/-- The output bit of a step: register bit 15 (R122). -/
def lfsrOut (reg : BitVec 15) : Bool :=
  reg.getLsbD 14

/-- One step of the register: bits 1 to 14 move up one place, and bit 15 XOR bit 14 enters bit 1 (R122). -/
def lfsrStep (reg : BitVec 15) : BitVec 15 :=
  (reg <<< 1) ||| (BitVec.ofBool (xor (reg.getLsbD 14) (reg.getLsbD 13))).setWidth 15

/-- The register after `n` steps. -/
def lfsrSteps : Nat → BitVec 15 → BitVec 15
  | 0, reg => reg
  | n + 1, reg => lfsrSteps n (lfsrStep reg)

/-- The output bits of the next `n` steps as a number, the first of them in bit 0 (R122). -/
def lfsrBits : Nat → BitVec 15 → Nat
  | 0, _ => 0
  | n + 1, reg => bit (lfsrOut reg) + 2 * lfsrBits n (lfsrStep reg)

/-- The bytes of the next `n` columns: 8 steps a column (R122). -/
def lfsrBytes : Nat → BitVec 15 → List Byte
  | 0, _ => []
  | n + 1, reg => BitVec.ofNat 8 (lfsrBits 8 reg) :: lfsrBytes n (lfsrSteps 8 reg)

/-- The byte of a pattern other than LFSR at a column of a row (R121). -/
def patternByte (pattern : Pattern) (userPattern : List Byte) (r : Row) (column : Nat) : Byte :=
  match pattern with
  | .solid0 => 0x00
  | .solid1 => 0xFF
  | .checker => if (r.number.val + column) % 2 = 0 then 0x55 else 0xAA
  | .user => userPattern.getD (column % 8) 0
  | .lfsr => 0

/-- The LFSR register of a context as a burst finds it: loaded at burst 0, carried on otherwise (R122, R125, R128). -/
def burstRegister (c : ProbeContext) : BitVec 15 :=
  if c.burstsDone = 0 then lfsrLoad c.seed c.target else c.lfsr

/-- The 32 bytes of a context's next burst (R121, R122). -/
def burstBytes (c : ProbeContext) : List Byte :=
  match c.pattern with
  | .lfsr => lfsrBytes Config.burstColumns (burstRegister c)
  | .solid0 | .solid1 | .checker | .user =>
    (List.range Config.burstColumns).map (fun i =>
      patternByte c.pattern (c.userPattern.getD []) c.target (Config.burstColumns * c.burstsDone + i))

/-- The context with its LFSR register moved past the next burst (R122). DESIGN CHOICE (assumption 13): a stage whose pattern is
not LFSR neither loads nor steps the register. R122 loads it in each stage, and Table 7-1 gives the seed a use for LFSR alone. -/
def advanceRegister (c : ProbeContext) : ProbeContext :=
  match c.pattern with
  | .lfsr => { c with lfsr := lfsrSteps (8 * Config.burstColumns) (burstRegister c) }
  | .solid0 | .solid1 | .checker | .user => c

end Sys2Proof.Machine
end

