-- ==== Sys2Proof/Machine/Arbiter.lean ====
section
/-! DEFINITION. Claims, the grant order, and what a grant does (chapter 2). A claim is no state of its own but for the
close claims: it stands while its claimant's condition holds (section 2.1), so it is read from the claimant's state. -/

namespace Sys2Proof.Machine

open Sys2Proof

/-- The claims of Table 2-1. The refresh engine's one claim is named by the urgency it must have to be granted at its
place in the order (R27). -/
inductive Claim where
  | close (device : DeviceId)
  | refresh (urgent : Bool)
  | request
  | copy
  | probe (context : ContextId)
  | init
  deriving DecidableEq, Repr

/-! ### The request engine's head (sections 5.3 and 5.4) -/

/-- The length limit of a request kind (R84). -/
def RequestKind.limit : RequestKind → Nat
  | .read => 32
  | .write => 32
  | .fill => 256

/-- The execution checks, in order: the status of the first that fails (R84). -/
def executionCheck (deviceCount : Nat) (q : Request) : Option CompletionStatus :=
  if deviceCount ≤ q.row.device.val then some .nodev
  else if isReservedRow q.row then some .reserved
  else if q.length < 1 ∨ q.kind.limit < q.length ∨ Config.columnsPerRow < q.column + q.length then some .bounds
  else none

/-- The five conditions of the head of the request queue (R86). -/
inductive HeadCondition where
  | failed
  | blocked
  | stalled
  | claiming
  | inAccess
  deriving DecidableEq, Repr

/-- An access of the head is on the port: the access record is there and not marked discarded (R86, R97). -/
def liveAccess (s : State) : Bool :=
  match s.requests.access with
  | none => false
  | some a => !a.discarded

/-- The completion queue has room (R85, R86). -/
def completionRoom (s : State) : Bool :=
  decide (s.requests.completions.length < Config.queueEntries)

/-- The condition of the head of the request queue (R86). -/
def headCondition (s : State) : Option HeadCondition :=
  match s.requests.requests with
  | [] => none
  | q :: _ =>
    if liveAccess s then some .inAccess
    else if (executionCheck s.deviceCount q).isSome then some .failed
    else if !completionRoom s then some .blocked
    else match lookup s q.row with
      | .held => some .stalled
      | .home => some .claiming
      | .reserved _ => some .claiming

/-! ### Claims (section 2.1) -/

/-- The close claim of a device is raised (R15). -/
def closeRaised (s : State) (d : DeviceId) : Bool :=
  (deviceState s d).closeClaim

/-- The refresh engine's claim is raised (R21). -/
def refreshRaised (s : State) : Bool :=
  !s.scheduler.due.isEmpty && !s.scheduler.refreshing

/-- The head of the due queue is urgent (R21, R71). -/
def headUrgent (s : State) : Bool :=
  match s.scheduler.due with
  | [] => false
  | e :: _ => isUrgent s e

/-- The request engine's claim is raised: the head is CLAIMING and no access of the engine is on the port, a discarded one
included (R22). -/
def requestRaised (s : State) : Bool :=
  s.requests.access.isNone && headCondition s == some .claiming

/-- The copy engine's claim is raised (R23). -/
def copyRaised (s : State) : Bool :=
  match s.copy.queue with
  | [] => false
  | j :: _ => decide (j.progress < Config.burstsPerRow) && s.copy.engine == .idle

/-- A burst of the context is on the port (R24). -/
def burstInProgress (s : State) (k : ContextId) : Bool :=
  match s.port.operation with
  | some (.patternBurst j _ _ _) => decide (j = k)
  | some (.checkBurst j _ _ _) => decide (j = k)
  | some (.rowRefresh _) | some (.rowClose _) | some (.hostAccess _ _ _ _ _ _ _) | some (.copyBurst _ _ _)
  | some (.initCycle _) | none => false

/-- A probe context's claim is raised (R24). -/
def probeRaised (s : State) (k : ContextId) : Bool :=
  let c := contextOf s k
  (c.state == .writing || c.state == .checking) && decide (c.burstsDone < Config.burstsPerRow) && !burstInProgress s k

/-- An INIT CYCLE is on the port. -/
def initCycleInProgress (s : State) : Bool :=
  match s.port.operation with
  | some (.initCycle _) => true
  | some (.rowRefresh _) | some (.rowClose _) | some (.hostAccess _ _ _ _ _ _ _) | some (.copyBurst _ _ _)
  | some (.patternBurst _ _ _ _) | some (.checkBurst _ _ _ _) | none => false

/-- The initialisation sequence's claim is raised: cycles remain and none of them is on the port (R17, R20). -/
def initRaised (s : State) : Bool :=
  decide (s.port.initCycle < 8 * s.deviceCount) && !initCycleInProgress s

/-- A claim can be raised in the controller state (R33). -/
def Claim.arises (claim : Claim) (controller : Option Controller) : Bool :=
  match controller, claim with
  | some .init, .init => true
  | some .ready, .init => false
  | some .ready, _ => true
  | some .resetting, .close _ => true
  | some .resetting, .refresh _ => true
  | some .resetting, .copy => true
  | _, _ => false

/-- The claimant's own condition for a claim holds (Table 2-1). -/
def Claim.condition (s : State) : Claim → Bool
  | .close d => closeRaised s d
  | .refresh urgent => refreshRaised s && (headUrgent s == urgent)
  | .request => requestRaised s
  | .copy => copyRaised s
  | .probe k => probeRaised s k
  | .init => initRaised s

/-- A claim waits (R20). -/
def claimRaised (s : State) (claim : Claim) : Bool :=
  claim.arises s.controller && claim.condition s

/-- A copy or probe claim waits (R28). -/
def maintenanceWaiting (s : State) : Bool :=
  claimRaised s .copy || allContexts.any (fun k => claimRaised s (.probe k))

/-- The claims of positions 3 to 5 in their order, none under FORCED (R27, R30, Table 2-2). -/
def middlePositions (s : State) : List Claim :=
  if s.scheduler.forced then []
  else if s.port.hostGrants = Config.hostGrantLimit then .copy :: allContexts.map Claim.probe ++ [.request]
  else .request :: .copy :: allContexts.map Claim.probe

/-- The grant order at this moment (R27, R30); the initialisation sequence's claim stands outside it (R33). -/
def grantOrder (s : State) : List Claim :=
  .init :: allDevices.map Claim.close ++ [.refresh true] ++ middlePositions s ++ [.refresh false]

/-- The claim the arbiter chooses: the first in the order that waits (R27). -/
def chooseClaim (s : State) : Option Claim :=
  (grantOrder s).find? (claimRaised s)

/-! ### Grants (section 2.2) -/

/-- The consecutive-host-grant count after a grant of a claim (R29). -/
def grantCount (s : State) : Claim → Nat
  | .request => if maintenanceWaiting s then s.port.hostGrants + 1 else 0
  | .copy => 0
  | .probe _ => 0
  | .close _ => s.port.hostGrants
  | .refresh _ => s.port.hostGrants
  | .init => s.port.hostGrants

/-- The source and target rows of a copy job's bursts (R106). -/
def CopyJob.rows (j : CopyJob) : Row × Row :=
  match j.kind with
  | .park => (j.home, reservedRow j.index)
  | .retire => (j.home, reservedRow j.index)
  | .restore => (reservedRow j.index, j.home)

/-- The bytes a request writes: a WRITE's data, a FILL's byte over the length, none for a READ (R90). -/
def requestBytes (q : Request) : List Byte :=
  match q.kind with
  | .read => []
  | .write => q.data.getD []
  | .fill => List.replicate q.length (q.fill.getD 0)

/-- The row the lookup gives a request, and whether that is a reserved row (R90). -/
def targetOf (s : State) (home : Row) : Row × Bool :=
  match lookup s home with
  | .reserved i => (reservedRow i, true)
  | .home => (home, false)
  | .held => (home, false)

/-- The HOST ACCESS descriptor of a request (R3, R7, R90). -/
def hostDescriptor (s : State) (q : Request) : PortOperation :=
  let target := (targetOf s q.row).1
  .hostAccess target q.kind q.column q.length (requestBytes q) s.config.pageOpen
    (decide ((deviceState s target.device).openRow = some target.number))

/-- The descriptor the claimant of a claim hands to the port (R3). -/
def descriptor (s : State) : Claim → Option PortOperation
  | .close d => some (.rowClose d)
  | .refresh _ => s.scheduler.due.head?.map (fun e => .rowRefresh e.row)
  | .request => s.requests.requests.head?.map (hostDescriptor s)
  | .copy => s.copy.queue.head?.map (fun j => .copyBurst j.rows.1 j.rows.2 j.progress)
  | .probe k =>
    let c := contextOf s k
    match c.state with
    | .writing => some (.patternBurst k c.target c.burstsDone (burstBytes c))
    | .checking => some (.checkBurst k c.target c.burstsDone (burstBytes c))
    | .idle | .parking | .stretch | .restoring | .done => none
  | .init => some (.initCycle { device := Fin.ofNat 4 (s.port.initCycle / 8),
                                number := Fin.ofNat 1024 (s.port.initCycle % 8) })

/-- A hit HOST ACCESS, the one operation whose grant leaves the open-row timer and the close claim alone (R26). -/
def PortOperation.isHit : PortOperation → Bool
  | .hostAccess _ _ _ _ _ _ hit => hit
  | .rowRefresh _ | .rowClose _ | .copyBurst _ _ _ | .patternBurst _ _ _ _ | .checkBurst _ _ _ _ | .initCycle _ => false

/-- The open-row effects of an operation's grant (R26 step 3). -/
def openRowEffects (op : PortOperation) (s : State) : State :=
  if op.isHit then s else op.devices.foldl (fun t d => stopOpenRowTimer d t) s

/-- Activation credit: the due entry of each row the operation activates leaves the due queue (R31). -/
def activationCredit (op : PortOperation) (s : State) : State :=
  op.activates.foldl (fun t r => departIfQueued r t) s

/-- The refresh engine enters REFRESHING and removes the head of the due queue (R21, R74). -/
def takeRefreshHead (s : State) : State :=
  match s.scheduler.due with
  | [] => s
  | e :: _ =>
    let s1 := { s with scheduler := { s.scheduler with refreshing := true } }
    departDue e.row s1

/-- The request engine fills its access record (R90). -/
def fillAccessRecord (s : State) : State :=
  match s.requests.requests with
  | [] => s
  | q :: _ =>
    let (target, redirected) := targetOf s q.row
    { s with requests := { s.requests with access := some { target := target, redirected := redirected, discarded := false } } }

/-- What the claimant itself does at its grant. -/
def claimantEffects (claim : Claim) (s : State) : State :=
  match claim with
  | .close _ => s
  | .refresh _ => takeRefreshHead s
  | .request => fillAccessRecord s
  | .copy => { s with copy := { s.copy with engine := .copying false } }
  | .probe k => setContext k (advanceRegister (contextOf s k)) s
  | .init => s

/-- The grant of a claim (R26): the claim is consumed, the descriptor taken, the open-row effects made, the count updated
and activation credit applied. -/
def grantClaim (claim : Claim) (s : State) : State :=
  match descriptor s claim with
  | none => s
  | some op =>
    let s1 := claimantEffects claim s
    let s2 := openRowEffects op s1
    let s3 := { s2 with port := { s2.port with hostGrants := grantCount s claim } }
    activationCredit op (occupyPort op s3)

/-- The arbiter at an event: with the port free it grants the first claim that waits, if any (R25). It runs in every
controller state and makes no grant while RSTIN# is low (R34). -/
def arbitrate (s : State) : State :=
  match s.port.operation with
  | some _ => s
  | none =>
    match chooseClaim s with
    | none => s
    | some claim => grantClaim claim s

end Sys2Proof.Machine
end

