-- ==== Sys2Proof/Machine/Requests.lean ====
section
/-! DEFINITION. Host memory requests (chapter 5): posting, staging, the access's end, the completion queue. -/

namespace Sys2Proof.Machine

open Sys2Proof

/-- A completion joins the tail of the CQ; it becomes the head, with the data cursor at 0, if the CQ was empty; CQ_READY is
raised (R92, R93, R94). -/
def appendCompletion (c : Completion) (s : State) : State :=
  raiseEvent .cqReady { s with
    requests := { s.requests with
      completions := s.requests.completions ++ [c]
      cursor := if s.requests.completions.isEmpty then 0 else s.requests.cursor } }

/-- The completion of a head that failed a check (R85). -/
def failedCompletion (q : Request) (status : CompletionStatus) : Completion :=
  { tag := q.tag, status := status, redirected := false, length := q.length, data := none }

/-- Failed heads complete one after another as far as the CQ has room, each next entry being checked as it becomes the head
(R84, R85). The first argument is the request queue itself, head first. -/
def endFailedHeads : List Request → State → State
  | [], s => s
  | q :: rest, s =>
    match executionCheck s.deviceCount q with
    | none => s
    | some status =>
      if completionRoom s then
        endFailedHeads rest (appendCompletion (failedCompletion q status)
          { s with requests := { s.requests with requests := rest } })
      else s

/-- The head of the request queue is checked and, if it fails and the CQ has room, completes (R84, R85). A head IN_ACCESS has
passed its checks and ends at its completion alone (R86). -/
def checkHead (s : State) : State :=
  if liveAccess s then s else endFailedHeads s.requests.requests s

/-- The request in execution ends: it leaves the RQ, its completion joins the CQ, and the next head is checked (R92). -/
def endRequest (data : List Byte) (redirected : Bool) (s : State) : State :=
  match s.requests.requests with
  | [] => s
  | q :: rest =>
    checkHead (appendCompletion
      { tag := q.tag, status := .ok, redirected := redirected, length := q.length,
        data := if q.kind = .read then some data else none }
      { s with requests := { s.requests with requests := rest } })

/-- The request engine's part of the completion of a HOST ACCESS: the access record is cleared; a discarded access changes
nothing else (R92, R97). -/
def endAccess (data : List Byte) (s : State) : State :=
  match s.requests.access with
  | none => s
  | some a =>
    let s1 := { s with requests := { s.requests with access := none } }
    if a.discarded then s1 else endRequest data a.redirected s1

/-- The open-row state and timer of the addressed device at the completion of a HOST ACCESS (R7, R13, R14). -/
def openRowAtCompletion (target : Row) (pageOpen hit : Bool) (s : State) : State :=
  let d := deviceState s target.device
  setDevice target.device
    (if pageOpen then
      if hit then { d with openRow := some target.number }
      else { openRow := some target.number, timer := .running (Config.openRowLength s.config.rowLimit) 0,
             closeClaim := false }
    else if hit then { openRow := none, timer := .stopped, closeClaim := false }
    else { d with openRow := none }) s

/-- What a HOST ACCESS does on the array (R8, R91). -/
def hostArrayEffect (target : Row) (kind : RequestKind) (column : Nat) (bytes : List Byte) (decay : Decay) (s : State) :
    State :=
  match kind with
  | .read => applyDecay target decay s
  | .write => writeBytes target column bytes s
  | .fill => writeBytes target column bytes s

/-- A HOST ACCESS completes (R4, R92). -/
def hostAccessDone (decay : Decay) (s : State) : State :=
  match s.port.operation with
  | some (.hostAccess target kind column length bytes pageOpen hit) =>
    let s1 := hostArrayEffect target kind column bytes decay s
    arbitrate (endAccess (readBytes s1 target column length) (openRowAtCompletion target pageOpen hit (freePort s1)))
  | some (.rowRefresh _) | some (.rowClose _) | some (.copyBurst _ _ _) | some (.patternBurst _ _ _ _)
  | some (.checkBurst _ _ _ _) | some (.initCycle _) | none => s

/-- The request built from the request field registers, but for a WRITE's data (R81). -/
def requestFromFields (e : RequestEngine) (kind : RequestKind) : Request :=
  { tag := e.tagField, kind := kind,
    row := { device := Fin.ofNat 4 e.deviceField.toNat, number := Fin.ofNat 1024 e.rowField.toNat },
    column := e.columnField.toNat, length := e.lengthField.toNat,
    fill := if kind = .fill then some e.fillField else none, data := none }

/-- A WRITE post takes staged bytes: its length lies within 1 to 32 (R83). -/
def takesBytes (q : Request) : Bool :=
  q.kind == .write && decide (1 ≤ q.length) && decide (q.length ≤ 32)

/-- A request is appended at the tail of the RQ, with the staged bytes it takes (R82, R83). -/
def acceptPost (q : Request) (s : State) : State :=
  let taken := if takesBytes q then q.length else 0
  { s with
    requests := { s.requests with
      staging := s.requests.staging.drop taken
      requests := s.requests.requests
        ++ [{ q with data := if takesBytes q then some (s.requests.staging.take taken) else none }] } }

/-- A post (R82): the tests in order; an accepted entry that becomes the head is checked at once (R84). -/
def post (s : State) : State :=
  if !isReady s then recordHostError .notReady s
  else if Config.queueEntries ≤ s.requests.requests.length then recordHostError .rqFull s
  else match RequestKind.ofField s.requests.kindField with
    | none => recordHostError .badKind s
    | some kind =>
      let q := requestFromFields s.requests kind
      if takesBytes q && decide (s.requests.staging.length < q.length) then recordHostError .stageShort s
      else if s.requests.requests.isEmpty then arbitrate (checkHead (acceptPost q s))
      else acceptPost q s

/-- A write of STAGE_DATA: two bytes, the low one first (R80). -/
def stage (value : Word) (s : State) : State :=
  if !isReady s then recordHostError .notReady s
  else if Config.stagingBytes < s.requests.staging.length + 2 then recordHostError .stageOverflow s
  else { s with requests := { s.requests with staging := s.requests.staging ++ wordBytes value } }

/-- The read data of the CQ's head, empty where it has none. -/
def headData (s : State) : List Byte :=
  match s.requests.completions with
  | [] => []
  | c :: _ => c.data.getD []

/-- The word a read of CQ_DATA returns: the byte at the cursor in the low half, the next one in the high half, 0 for a byte
at or beyond the data's length (R94). -/
def completionData (s : State) : Word :=
  let data := headData s
  let i := s.requests.cursor
  if data.length ≤ i then 0 else (data.getD (i + 1) 0) ++ (data.getD i 0)

/-- A read of CQ_DATA: the word goes out on the host bus and the cursor advances by 2, unless it stands at or beyond the
length (R94). -/
def readCompletionData (s : State) : State :=
  { s with
    host := { s.host with readData := completionData s }
    requests := { s.requests with
      cursor := if (headData s).length ≤ s.requests.cursor then s.requests.cursor else s.requests.cursor + 2 } }

/-- A write of CQ_POP (R95): the head leaves the CQ, and a waiting head completes or claims in the same event. -/
def popCompletion (s : State) : State :=
  match s.requests.completions with
  | [] => recordHostError .cqEmptyPop s
  | _ :: rest =>
    arbitrate (checkHead { s with requests := { s.requests with completions := rest, cursor := 0 } })

/-- HOST_ACCESS_COMPLETION (R92). No effect while no HOST ACCESS is on the port. -/
def execHostAccessCompletion (decay : Decay) (s : State) : Host.Outcome State Fault Refusal :=
  .next (whenRunning (hostAccessDone decay) s)

/-- FAILED_HEAD_COMPLETION (R85). -/
def execFailedHeadCompletion (s : State) : Host.Outcome State Fault Refusal :=
  .next (whenRunning (fun t => arbitrate (checkHead t)) s)

/-- RQ_POST (R82). -/
def execRqPost (_value : Word) (s : State) : Host.Outcome State Fault Refusal :=
  .next (whenRunning post s)

/-- STAGE_DATA (R80). -/
def execStageData (value : Word) (s : State) : Host.Outcome State Fault Refusal :=
  .next (whenRunning (stage value) s)

/-- CQ_DATA (R94). While RSTIN# is low a read returns 0 (R164). -/
def execCqData (s : State) : Host.Outcome State Fault Refusal :=
  .next (if running s then readCompletionData s else { s with host := { s.host with readData := 0 } })

/-- CQ_POP (R95). -/
def execCqPop (_value : Word) (s : State) : Host.Outcome State Fault Refusal :=
  .next (whenRunning popCompletion s)

end Sys2Proof.Machine
end

