-- ==== Sys2Proof/Machine/Outcomes.lean ====
section
/-! DEFINITION. Probe outcomes and the result log (chapter 8). -/

namespace Sys2Proof.Machine

open Sys2Proof

/-- The outcome of a row found weak: RETIRED under auto-retire, else SUSPECT (R141, R143). -/
def weakOutcome (autoRetire : Bool) : OutcomeName × OutcomeRecord :=
  if autoRetire then (.retired, { status := .retired, cls := 0, margin := 0, renewStamp := false })
  else (.suspect, { status := .suspect, cls := 0, margin := 0, renewStamp := false })

/-- A PROFILED record of a class and margin with a renewed stamp (R140). -/
def profiledOutcome (cls margin : Nat) : OutcomeRecord :=
  { status := .profiled, cls := cls, margin := margin, renewStamp := true }

/-- An UNPROFILED record. -/
def unprofiledOutcome : OutcomeRecord :=
  { status := .unprofiled, cls := 0, margin := 0, renewStamp := false }

/-- The outcome of a finished SEARCH from its last passed step (R141). -/
def searchOutcome (autoRetire : Bool) (m : Nat) : OutcomeName × OutcomeRecord :=
  match allowedClass m with
  | some k => (.profiled, profiledOutcome k m)
  | none => weakOutcome autoRetire

/-- The outcome of a CHECK at a step whose trials all passed, from the saved prior record (R142). -/
def passedCheckOutcome (step : Nat) (prior : PriorRecord) : OutcomeName × OutcomeRecord :=
  match prior.status with
  | .profiled =>
    if 2 ^ (prior.cls + 1) ≤ step then (.revalidated, profiledOutcome prior.cls (max prior.margin step))
    else match allowedClass step with
      | some k => (.demoted, profiledOutcome k step)
      | none => (.demoted, unprofiledOutcome)
  | .suspect =>
    match allowedClass step with
    | some k => (.profiled, profiledOutcome k step)
    | none => (.revalidated, { status := .suspect, cls := 0, margin := 1, renewStamp := false })
  | .unprofiled | .probing | .retired | .reserved =>
    match allowedClass step with
    | some k => (.profiled, profiledOutcome k step)
    | none => (.revalidated, unprofiledOutcome)

/-- The outcome of a CHECK at a step at which a trial failed (R143). -/
def failedCheckOutcome (autoRetire : Bool) (step : Nat) : OutcomeName × OutcomeRecord :=
  if step ≤ 2 then weakOutcome autoRetire else (.demoted, unprofiledOutcome)

/-- The saved prior record of a context; PROBE START refuses a row of any other status than UNPROFILED, PROFILED and SUSPECT
(R140), and a context that finishes has one. -/
def priorOf (c : ProbeContext) : PriorRecord :=
  c.prior.getD { status := .unprofiled, cls := 0, margin := 0, age := none }

/-- The outcome of a finished probe (R140). -/
def deriveOutcome (autoRetire : Bool) (c : ProbeContext) : PendingOutcome :=
  let derived := match c.mode with
    | .search => searchOutcome autoRetire c.lastPassed
    | .check =>
      match c.failingStep with
      | some step => failedCheckOutcome autoRetire step
      | none => passedCheckOutcome c.lastPassed (priorOf c)
  { name := derived.1, record := some derived.2 }

/-- The log entry a context builds (R148): failing step, mismatch count and first failing column are those of the failed
trial, absent and 0 where none failed and for ABORTED. -/
def logEntryOf (k : ContextId) (c : ProbeContext) : LogEntry :=
  let name := (c.outcome.map PendingOutcome.name).getD .aborted
  let newRecord := c.outcome.bind PendingOutcome.record
  let failing := if name = .aborted then none else c.failingStep
  { context := k, row := c.target, mode := c.mode, outcome := name,
    newClass := newRecord.bind (fun r => if r.status = .profiled then some r.cls else none),
    margin := c.lastPassed,
    failingStep := failing,
    mismatch := if failing.isSome then c.failingMismatch else 0,
    firstFailing := if failing.isSome then c.firstFailing else none,
    abortReason := if name = .aborted then c.abortReason else none }

/-- The log has room (R147). -/
def logRoom (s : State) : Bool :=
  decide (s.probes.log.length < Config.logEntries)

/-- A context in DONE appends its entry at the tail of the log and enters IDLE; LOG_READY is raised (R147, R149). -/
def appendLog (k : ContextId) (s : State) : State :=
  let s1 := { s with probes := { s.probes with log := s.probes.log ++ [logEntryOf k (contextOf s k)] } }
  raiseEvent .logReady (setContext k { contextOf s1 k with state := .idle } s1)

/-- A context enters DONE with a pending outcome: it appends its entry in the same event if the log has room, else joins the
tail of the log wait order (R147). -/
def enterDone (k : ContextId) (outcome : PendingOutcome) (s : State) : State :=
  let s1 := setContext k { contextOf s k with state := .done, outcome := some outcome } s
  if logRoom s1 then appendLog k s1
  else { s1 with probes := { s1.probes with waiting := s1.probes.waiting ++ [k] } }

/-- The head of the log wait order appends its entry once the log has room (R147, R151). -/
def serveWaiting (s : State) : State :=
  match s.probes.waiting with
  | [] => s
  | k :: rest =>
    if logRoom s then appendLog k { s with probes := { s.probes with waiting := rest } } else s

/-- LOG_WAIT_APPEND (R147). -/
def execLogWaitAppend (s : State) : Host.Outcome State Fault Refusal :=
  .next (whenRunning serveWaiting s)

end Sys2Proof.Machine
end

