-- ==== Sys2Proof/Machine/Probes.lean ====
section
/-! DEFINITION. Retention probes (chapter 7): job abandonment, park done, pattern, stretch and check, the end of a trial,
the ends of a probe, and aborts. -/

namespace Sys2Proof.Machine

open Sys2Proof

/-- A job is abandoned (R110, R111): it leaves the copy queue from its position and its COPYING entry is removed; if it was
the running job with a burst on the port, that burst will be discarded. -/
def abandonJob (isJob : CopyJob → Bool) (s : State) : State :=
  match s.copy.queue.find? isJob with
  | none => s
  | some j =>
    let atHead := s.copy.queue.head?.any isJob
    removeRedirect j.index { s with
      copy := { s.copy with
        queue := s.copy.queue.eraseP isJob
        engine := match s.copy.engine with
          | .idle => .idle
          | .copying abandoned => .copying (abandoned || atHead) } }

/-- The PARK job of a context (R105: it has at most one). -/
def isParkOf (k : ContextId) (j : CopyJob) : Bool :=
  j.kind == .park && j.owner == .context k

/-- A RETIRE job. -/
def isRetire (j : CopyJob) : Bool :=
  j.kind == .retire

/-- A context appends its RESTORE job, its entry becomes PARK/RESTORING and it enters RESTORING (R104, R132, R136). -/
def beginRestore (k : ContextId) (s : State) : State :=
  let c := contextOf s k
  let s1 := { s with
    copy := { s.copy with
      queue := s.copy.queue
        ++ [{ kind := .restore, home := c.target, index := c.parkIndex, owner := .context k, progress := 0 }] } }
  setContext k { c with state := .restoring } (changeRedirect c.parkIndex .parkRestoring (.context k) s1)

/-- The outcome name ABORTED with no record. -/
def abortedOutcome : PendingOutcome :=
  { name := .aborted, record := none }

/-- The abort of a context in PARKING (R135). -/
def abortParking (reason : AbortReason) (k : ContextId) (s : State) : State :=
  let s1 := abandonJob (isParkOf k) s
  let s2 := setContext k { contextOf s1 k with abortReason := some reason } s1
  match reason with
  | .reset => setContext k { contextOf s2 k with state := .idle, outcome := none } s2
  | .host => enterDone k abortedOutcome s2
  | .thermal => enterDone k abortedOutcome s2

/-- The abort of a context in WRITING, STRETCH or CHECKING (R136). -/
def abortRunning (reason : AbortReason) (k : ContextId) (s : State) : State :=
  beginRestore k (setContext k { contextOf s k with abortReason := some reason, stretchTimer := .stopped } s)

/-- The effect of an abort on a context, by its state (Table 7-3, R135 to R138). -/
def abortContext (reason : AbortReason) (k : ContextId) (s : State) : State :=
  match (contextOf s k).state with
  | .parking => abortParking reason k s
  | .writing => abortRunning reason k s
  | .stretch => abortRunning reason k s
  | .checking => abortRunning reason k s
  | .restoring =>
    if reason = .reset then setContext k { contextOf s k with abortReason := some .reset } s else s
  | .done =>
    if reason = .reset then setContext k { contextOf s k with state := .idle, outcome := none } s else s
  | .idle => s

/-- Every context aborted in ascending context number (R137, R138). -/
def abortAll (reason : AbortReason) (s : State) : State :=
  allContexts.foldl (fun t k => abortContext reason k t) s

/-- The record as park done saves it (R51). -/
def savedRecord (epoch : Nat) (r : Record) : PriorRecord :=
  { status := r.status, cls := r.cls, margin := r.margin,
    age := if r.status = .profiled then r.stamp.map (ageOf epoch) else none }

/-- Park done (R123): the record is saved, becomes PROBING and leaves the due queue; the context enters WRITING. -/
def parkDone (k : ContextId) (s : State) : State :=
  let c := contextOf s k
  match c.state with
  | .parking =>
    let saved := savedRecord s.scheduler.epoch (recordOf s c.target)
    let s1 := departIfQueued c.target s
    let s2 := setRecord c.target { recordOf s1 c.target with
      status := .probing, cls := 0, margin := 0, stamp := none, spare := none } s1
    setContext k { c with
      state := .writing, prior := some saved, burstsDone := 0, mismatch := 0, firstFailing := none } s2
  | .idle | .writing | .stretch | .checking | .restoring | .done => s

/-- The record of a finished probe's row takes the pending outcome's values, a PROFILED one with the epoch as its stamp
(R144). -/
def applyOutcome (c : ProbeContext) (s : State) : State :=
  match c.outcome.bind PendingOutcome.record with
  | none => s
  | some o =>
    setRecord c.target { recordOf s c.target with
      status := o.status, cls := o.cls, margin := o.margin,
      stamp := if o.status = .profiled then some s.scheduler.epoch else none, spare := none } s

/-- The record of an aborted probe's row returns to its saved prior record, a PROFILED one with the stamp that gives it the
saved age (R51). -/
def reinstate (c : ProbeContext) (s : State) : State :=
  match c.prior with
  | none => s
  | some p =>
    setRecord c.target { recordOf s c.target with
      status := p.status, cls := p.cls, margin := p.margin,
      stamp := if p.status = .profiled then p.age.map (ageOf s.scheduler.epoch) else none, spare := none } s

/-- The context's part of the completion of its RESTORE job (R133). -/
def restoreDone (k : ContextId) (s : State) : State :=
  let c := contextOf s k
  match c.state with
  | .restoring =>
    match c.abortReason with
    | none => enterDone k (c.outcome.getD abortedOutcome) (applyOutcome c s)
    | some .reset => setContext k { c with state := .idle, outcome := none } (reinstate c s)
    | some .host => enterDone k abortedOutcome (reinstate c s)
    | some .thermal => enterDone k abortedOutcome (reinstate c s)
  | .idle | .parking | .writing | .stretch | .checking | .done => s

/-- The conversion of a park into a spare (R145). -/
def convert (k : ContextId) (outcome : PendingOutcome) (s : State) : State :=
  let c := contextOf s k
  let s1 := departIfQueued c.target (changeRedirect c.parkIndex .spareActive .command s)
  let s2 := setRecord c.target { recordOf s1 c.target with
    status := .retired, cls := 0, margin := 0, stamp := none, spare := some c.parkIndex } s1
  enterDone k outcome s2

/-- A probe finishes (R132): its outcome is derived and decides between conversion and restore. -/
def finishProbe (k : ContextId) (s : State) : State :=
  let outcome := deriveOutcome s.config.autoRetire (contextOf s k)
  let s1 := setContext k { contextOf s k with outcome := some outcome } s
  if outcome.name = .retired then convert k outcome s1 else beginRestore k s1

/-- A context returns to WRITING for a further trial or step (R129, R130). -/
def enterWriting (c : ProbeContext) : ProbeContext :=
  { c with state := .writing, burstsDone := 0, mismatch := 0, firstFailing := none }

/-- A trial ends at the completion of the eighth check burst (R129 to R131). -/
def endTrial (k : ContextId) (s : State) : State :=
  let c := contextOf s k
  if c.mismatch = 0 then
    if c.trial < c.trials then setContext k { enterWriting c with trial := c.trial + 1 } s
    else if c.mode = .search ∧ c.step < 16 then
      setContext k { enterWriting c with lastPassed := c.step, step := c.step * 2, trial := 1 } s
    else finishProbe k (setContext k { c with lastPassed := c.step } s)
  else finishProbe k (setContext k { c with failingStep := some c.step, failingMismatch := c.mismatch } s)

/-- The columns, counted from a first one, at which two lists of bytes differ (R11). -/
def differingColumns (first : Nat) : List Byte → List Byte → List Nat
  | a :: as, b :: bs =>
    if a = b then differingColumns (first + 1) as bs else first :: differingColumns (first + 1) as bs
  | _, _ => []

/-- A context takes the two values of its check burst (R128). -/
def countBurst (differing : List Nat) (c : ProbeContext) : ProbeContext :=
  { c with
    mismatch := min 255 (c.mismatch + differing.length)
    firstFailing := c.firstFailing.or differing.head?
    burstsDone := c.burstsDone + 1 }

/-- The context's part of the completion of its check burst: the completion is discarded if the context has left CHECKING
(R128, R136). -/
def checkBurstResult (k : ContextId) (differing : List Nat) (s : State) : State :=
  match (contextOf s k).state with
  | .checking =>
    let s1 := setContext k (countBurst differing (contextOf s k)) s
    if (contextOf s1 k).burstsDone < Config.burstsPerRow then s1 else endTrial k s1
  | .idle | .parking | .writing | .stretch | .restoring | .done => s

/-- The decay a CHECK BURST meets: the activation of the first burst of the stage recharges the whole row as it then reads,
and the later bursts read what the row held at it, however long they wait (R127). -/
def decayMet (burst : Nat) (decay : Decay) : Decay :=
  if burst = 0 then decay else []

/-- A CHECK BURST completes (R11, R127, R128). -/
def checkBurstDone (decay : Decay) (s : State) : State :=
  match s.port.operation with
  | some (.checkBurst k row burst expected) =>
    let s1 := applyDecay row (decayMet burst decay) s
    let found := readBytes s1 row (Config.burstColumns * burst) Config.burstColumns
    arbitrate (checkBurstResult k (differingColumns (Config.burstColumns * burst) found expected)
      (closeDevice row.device (freePort s1)))
  | some (.rowRefresh _) | some (.rowClose _) | some (.hostAccess _ _ _ _ _ _ _) | some (.copyBurst _ _ _)
  | some (.patternBurst _ _ _ _) | some (.initCycle _) | none => s

/-- The context's part of the completion of its pattern burst: after the eighth it enters STRETCH and its stretch timer
starts; the completion is discarded if the context has left WRITING (R125, R126, R136). -/
def patternBurstResult (k : ContextId) (s : State) : State :=
  let c := contextOf s k
  match c.state with
  | .writing =>
    if c.burstsDone + 1 < Config.burstsPerRow then setContext k { c with burstsDone := c.burstsDone + 1 } s
    else setContext k { c with
      state := .stretch, burstsDone := 0,
      stretchTimer := .running (Config.stretchLength c.step s.scheduler.tbase) 0 } s
  | .idle | .parking | .stretch | .checking | .restoring | .done => s

/-- A PATTERN BURST completes (R10, R125). -/
def patternBurstDone (s : State) : State :=
  match s.port.operation with
  | some (.patternBurst k row burst bytes) =>
    arbitrate (patternBurstResult k
      (closeDevice row.device (freePort (writeBytes row (Config.burstColumns * burst) bytes s))))
  | some (.rowRefresh _) | some (.rowClose _) | some (.hostAccess _ _ _ _ _ _ _) | some (.copyBurst _ _ _)
  | some (.checkBurst _ _ _ _) | some (.initCycle _) | none => s

/-- A timer runs. -/
def Timer.isRunning : Timer → Bool
  | .running _ _ => true
  | .stopped => false
  | .expired => false

/-- A context's stretch timer expires: it becomes STOPPED and the context enters CHECKING (R126). -/
def stretchExpired (k : ContextId) (s : State) : State :=
  let c := contextOf s k
  match c.state with
  | .stretch =>
    if c.stretchTimer.isRunning then
      arbitrate (setContext k { c with state := .checking, stretchTimer := .stopped, burstsDone := 0 } s)
    else s
  | .idle | .parking | .writing | .checking | .restoring | .done => s

/-- PATTERN_BURST_COMPLETION (R125). No effect while no PATTERN BURST is on the port. -/
def execPatternBurstCompletion (s : State) : Host.Outcome State Fault Refusal :=
  .next (whenRunning patternBurstDone s)

/-- CHECK_BURST_COMPLETION (R128). No effect while no CHECK BURST is on the port. -/
def execCheckBurstCompletion (decay : Decay) (s : State) : Host.Outcome State Fault Refusal :=
  .next (whenRunning (checkBurstDone decay) s)

/-- STRETCH_TIMER_EXPIRY (R126). No effect while the context's stretch timer does not run. -/
def execStretchTimerExpiry (context : ContextId) (s : State) : Host.Outcome State Fault Refusal :=
  .next (whenRunning (stretchExpired context) s)

end Sys2Proof.Machine
end

