-- ==== Sys2Proof/Machine/Copy.lean ====
section
/-! DEFINITION. The copy engine's bursts and jobs (sections 6.2 and 6.3), and the end of the unwind (R169). -/

namespace Sys2Proof.Machine

open Sys2Proof

/-- The unwind has ended: no PARK entry remains and the copy queue is empty (R169). -/
def unwindEnded (s : State) : Bool :=
  s.controller == some .resetting && s.redirects.all (fun p => !p.2.state.isPark) && s.copy.queue.isEmpty

/-- The test for the end of the unwind: the controller enters READY and RESET_DONE is raised (R169). -/
def testUnwind (s : State) : State :=
  if unwindEnded s then raiseEvent .resetDone { s with controller := some .ready } else s

/-- The home row's record becomes RETIRED with a spare index, and its due entry leaves the due queue (R53, R109, R174). -/
def retireRecord (home : Row) (i : ReservedIndex) (s : State) : State :=
  let s1 := departIfQueued home s
  setRecord home { recordOf s1 home with
    status := .retired, cls := 0, margin := 0, stamp := none, spare := some i } s1

/-- The completion of a RETIRE job (R109). -/
def retireDone (j : CopyJob) (s : State) : State :=
  let s1 := retireRecord j.home j.index (changeRedirect j.index .spareActive .command s)
  raiseEvent .retireDone { s1 with copy := { s1.copy with retire := none } }

/-- What the owner of a completed PARK or RESTORE job does (R107, R108): the command unit owns neither kind. -/
def tellOwner (tell : ContextId → State → State) (owner : Owner) (s : State) : State :=
  match owner with
  | .context k => tell k s
  | .command => s

/-- A job's effects at the completion of its eighth burst, once it has left the queue (R107 to R109). -/
def jobDone (j : CopyJob) (s : State) : State :=
  match j.kind with
  | .park => tellOwner parkDone j.owner (changeRedirect j.index .parkHeld j.owner s)
  | .restore => testUnwind (tellOwner restoreDone j.owner (removeRedirect j.index s))
  | .retire => retireDone j s

/-- The head job after one of its bursts: its progress rises by one, and at 8 it completes (R106). -/
def advanceJob (s : State) : State :=
  match s.copy.queue with
  | [] => s
  | j :: rest =>
    if j.progress + 1 < Config.burstsPerRow then
      { s with copy := { s.copy with queue := { j with progress := j.progress + 1 } :: rest } }
    else jobDone j { s with copy := { s.copy with queue := rest } }

/-- The copy engine's part of a burst's completion: it returns to IDLE, and the burst of an abandoned job is discarded
(R106, R111). -/
def copyBurstResult (s : State) : State :=
  match s.copy.engine with
  | .idle => s
  | .copying abandoned =>
    let s1 := { s with copy := { s.copy with engine := .idle } }
    if abandoned then s1 else advanceJob s1

/-- What a COPY BURST does on the array: 32 columns of the source row go through the copy buffer to the same columns of the
target row (R9). -/
def copyArrayEffect (source target : Row) (burst : Nat) (decay : Decay) (s : State) : State :=
  let s1 := applyDecay source decay s
  let moved := readBytes s1 source (Config.burstColumns * burst) Config.burstColumns
  let s2 := writeBytes target (Config.burstColumns * burst) moved s1
  { s2 with copy := { s2.copy with buffer := moved } }

/-- A COPY BURST completes (R9, R106). -/
def copyBurstDone (decay : Decay) (s : State) : State :=
  match s.port.operation with
  | some (.copyBurst source target burst) =>
    arbitrate (copyBurstResult
      (closeDevice target.device (closeDevice source.device (freePort (copyArrayEffect source target burst decay s)))))
  | some (.rowRefresh _) | some (.rowClose _) | some (.hostAccess _ _ _ _ _ _ _) | some (.patternBurst _ _ _ _)
  | some (.checkBurst _ _ _ _) | some (.initCycle _) | none => s

/-- COPY_BURST_COMPLETION (R106). No effect while no COPY BURST is on the port. -/
def execCopyBurstCompletion (decay : Decay) (s : State) : Host.Outcome State Fault Refusal :=
  .next (whenRunning (copyBurstDone decay) s)

/-- UNWIND_END (R169). -/
def execUnwindEnd (s : State) : Host.Outcome State Fault Refusal :=
  .next (whenRunning (fun t => arbitrate (testUnwind t)) s)

end Sys2Proof.Machine
end

