-- ==== Sys2Proof/Machine/Temperature.lean ====
section
/-! DEFINITION. Temperature supervision (chapter 9). -/

namespace Sys2Proof.Machine

open Sys2Proof

/-- A reading clamped to −40 to +125 °C (section 9.1). -/
def clampReading (t : Int) : Int :=
  max (-40) (min 125 t)

/-- The mean of the window's readings, rounded toward minus infinity (R156). -/
def windowMean (window : List Int) : Int :=
  window.sum / 4

/-- The thermal state after an evaluation of a mean (R157). -/
def nextThermal (config : Configuration) (mean : Int) : ThermalState → ThermalState
  | .normal =>
    if config.hotEnter ≤ mean then .hot else if config.warmEnter ≤ mean then .warm else .normal
  | .warm =>
    if config.hotEnter ≤ mean then .hot
    else if mean ≤ config.warmEnter - config.hysteresis then .normal else .warm
  | .hot =>
    if mean ≤ config.hotEnter - config.hysteresis then
      if mean ≤ config.warmEnter - config.hysteresis then .normal else .warm
    else .hot

/-- The thermal state becomes one: a change raises THERMAL_CHANGE, and an entry into HOT then aborts the probes that run
(R137, R158). -/
def enterThermal (new : ThermalState) (s : State) : State :=
  if s.supervisor.thermal = new then s
  else
    let s1 := raiseEvent .thermalChange { s with supervisor := { s.supervisor with thermal := new } }
    if new = .hot then abortAll .thermal s1 else s1

/-- A reading arrives at the window (R156). -/
def readingArrives (reading : Int) (s : State) : State :=
  let window := (if s.supervisor.window.length < Config.windowReadings then s.supervisor.window
    else s.supervisor.window.drop 1) ++ [reading]
  let s1 := { s with supervisor := { s.supervisor with window := window, lastReading := some reading } }
  if window.length < Config.windowReadings then s1
  else enterThermal (nextThermal s.config (windowMean window) s.supervisor.thermal) s1

/-- The external-sensor timeout: the window is emptied, the count returns to 0, the state becomes HOT and SENSOR_STALE is
raised (R159). -/
def sensorTimeout (s : State) : State :=
  raiseEvent .sensorStale
    (enterThermal .hot { s with supervisor := { s.supervisor with window := [], stale := 0 } })

/-- The timeout fires once the staleness count has come to 4 in EXTERNAL mode (R159). -/
def testSensorTimeout (s : State) : State :=
  if s.config.external && decide (Config.staleLimit ≤ s.supervisor.stale) then sensorTimeout s else s

/-- The supervisor's part of a pass start: a conversion starts in INTERNAL mode, the staleness count advances in EXTERNAL
mode (R154, R159). -/
def supervisorPassStart (s : State) : State :=
  if s.config.external then
    testSensorTimeout { s with supervisor := { s.supervisor with stale := s.supervisor.stale + 1 } }
  else match s.supervisor.conversion with
    | .idle => { s with supervisor := { s.supervisor with conversion := .converting false } }
    | .converting _ => s

/-- A conversion completes (R154). -/
def conversionDone (measured : Int) (s : State) : State :=
  match s.supervisor.conversion with
  | .idle => s
  | .converting discard =>
    let s1 := { s with supervisor := { s.supervisor with conversion := .idle } }
    if discard then s1 else arbitrate (readingArrives (clampReading measured) s1)

/-- A conversion in progress is marked for discard (R153). -/
def markDiscard : Conversion → Conversion
  | .idle => .idle
  | .converting _ => .converting true

/-- A change of sensor mode (R153). -/
def changeSensorMode (external : Bool) (s : State) : State :=
  enterThermal .hot { s with
    config := { s.config with external := external }
    supervisor := { s.supervisor with
      window := [], stale := 0, conversion := markDiscard s.supervisor.conversion } }

/-- CONVERSION_COMPLETION (R154). No effect while no conversion is in progress. -/
def execConversionCompletion (measured : Int) (s : State) : Host.Outcome State Fault Refusal :=
  .next (whenRunning (conversionDone measured) s)

/-- EXTERNAL_SENSOR_TIMEOUT (R159). -/
def execExternalSensorTimeout (s : State) : Host.Outcome State Fault Refusal :=
  .next (whenRunning (fun t => arbitrate (testSensorTimeout t)) s)

end Sys2Proof.Machine
end

