-- ==== Sys2Proof/Machine/Refresh.lean ====
section
/-! DEFINITION. Refresh scheduling (chapter 4): the slice timer, pass starts, the slice scan, FORCED and the refresh
engine. -/

namespace Sys2Proof.Machine

open Sys2Proof

/-- A pass start (R59): the pass number advances, the epoch counter if the new pass number is a multiple of E, the T_base
written comes into force, and the temperature supervisor is told. -/
def passStart (s : State) : State :=
  let pass := (s.scheduler.pass + 1) % 65536
  supervisorPassStart { s with
    scheduler := { s.scheduler with
      pass := pass
      epoch := if pass % s.config.epochDivider = 0 then (s.scheduler.epoch + 1) % 256 else s.scheduler.epoch
      tbase := s.config.tbaseWritten } }

/-- An expiry that advances the serial to `serial` is an overrun: the head of the due queue lies two or more slices back, or
the scan of an earlier slice had not ended (R72). -/
def isOverrun (serial pendingBefore : Nat) (due : List DueEntry) : Bool :=
  decide (0 < pendingBefore) ||
    match due with
    | [] => false
    | e :: _ => decide (2 ≤ (serial + 65536 - e.stamp) % 65536)

/-- The cursor at the first visit of a slice (R58, R62, R63). -/
def sliceStart (serial pass : Nat) : ScanCursor :=
  { serial := serial, pass := pass, device := 0, row := Fin.ofNat 1024 (serial % Config.slicesPerPass), paused := false }

/-- OVERRUN is raised and FORCED set (R72). -/
def overrun (s : State) : State :=
  raiseEvent .overrun { s with scheduler := { s.scheduler with forced := true } }

/-- A slice expiry is taken (R58). -/
def takeExpiry (s : State) : State :=
  let serial := (s.scheduler.serial + 1) % 65536
  let before := s.scheduler.pendingSlices
  let s1 := { s with scheduler := { s.scheduler with serial := serial } }
  let s2 := if serial % Config.slicesPerPass = 0 then passStart s1 else s1
  let s3 := if isOverrun serial before s2.scheduler.due then overrun s2 else s2
  { s3 with
    scheduler := { s3.scheduler with
      pendingSlices := before + 1
      cursor := if before = 0 then some (sliceStart serial s3.scheduler.pass) else s3.scheduler.cursor } }

/-- The slice timer starts RUNNING for a new period of the T_base in force (R57). -/
def startSliceTimer (s : State) : State :=
  { s with scheduler := { s.scheduler with sliceTimer := .running (Config.slicePeriod s.scheduler.tbase) 0 } }

/-- The slice timer expires: the expiry is taken, or the timer is HELD at a pending-slice count of 15 (R57). -/
def sliceExpired (s : State) : State :=
  if s.scheduler.sliceTimer.isRunning then
    if s.scheduler.pendingSlices < Config.pendingSlices then arbitrate (startSliceTimer (takeExpiry s))
    else { s with scheduler := { s.scheduler with sliceTimer := .expired } }
  else s

/-- A HELD slice timer is released once the pending-slice count is below 15: the held expiry is taken and the timer runs anew
(R61). -/
def releaseHeld (s : State) : State :=
  if s.scheduler.sliceTimer = .expired ∧ s.scheduler.pendingSlices < Config.pendingSlices then
    startSliceTimer (takeExpiry s)
  else s

/-- The cursor moves to the next serial: the slice pass number advances if that serial is a multiple of 16 (R62). -/
def nextSlice (c : ScanCursor) : ScanCursor :=
  let serial := (c.serial + 1) % 65536
  sliceStart serial (if serial % Config.slicesPerPass = 0 then (c.pass + 1) % 65536 else c.pass)

/-- A slice scan ends (R68). -/
def endScan (c : ScanCursor) (s : State) : State :=
  let count := s.scheduler.pendingSlices - 1
  testForced (releaseHeld { s with
    scheduler := { s.scheduler with
      pendingSlices := count
      cursor := if 0 < count then some (nextSlice c) else none } })

/-- The scan goes on to its next row, to the next present device, or ends (R63, R68). -/
def advanceScan (c : ScanCursor) (s : State) : State :=
  if c.row.val + Config.slicesPerPass < Config.rowsPerDevice then
    { s with
      scheduler := { s.scheduler with
        cursor := some { c with row := Fin.ofNat 1024 (c.row.val + Config.slicesPerPass), paused := false } } }
  else if c.device.val + 1 < s.deviceCount then
    { s with
      scheduler := { s.scheduler with
        cursor := some { c with
          device := Fin.ofNat 4 (c.device.val + 1), row := Fin.ofNat 1024 (c.serial % Config.slicesPerPass),
          paused := false } } }
  else endScan c s

/-- The age of a record, taken for a PROFILED record at a visit (R48, R66). -/
def recordAge (epoch : Nat) (r : Record) : Nat :=
  ageOf epoch (r.stamp.getD 0)

/-- Age demotion at a visit (R66). -/
def ageDemotion (row : Row) (s : State) : State :=
  let r := recordOf s row
  if r.status = .profiled ∧ s.config.ageLimit ≤ recordAge s.scheduler.epoch r then
    raiseEvent .ageDemote
      (setRecord row { r with status := .unprofiled, cls := 0, margin := 0, stamp := none, spare := none } s)
  else s

/-- The due decision (R64, R65): a PROFILED row of effective class e is due when the slice pass number and row div 16 agree
mod 2^e. -/
def isDue (thermal : ThermalState) (pass : Nat) (row : Row) (r : Record) : Bool :=
  match r.status with
  | .reserved => true
  | .unprofiled => true
  | .suspect => true
  | .profiled =>
    let e := effectiveClass thermal r
    decide (pass % 2 ^ e = row.number.val / 16 % 2 ^ e)
  | .probing => false
  | .retired => false

/-- A due row is appended at the tail of the due queue with the slice's serial as its stamp, and its queued flag is set
(R67). -/
def appendDue (row : Row) (stamp : Nat) (s : State) : State :=
  setRecord row { recordOf s row with queued := true }
    { s with scheduler := { s.scheduler with due := s.scheduler.due ++ [{ row := row, stamp := stamp }] } }

/-- The visit of the cursor's row (R63 to R67). -/
def visitRow (c : ScanCursor) (s : State) : State :=
  let row : Row := { device := c.device, number := c.row }
  let s1 := ageDemotion row s
  let r := recordOf s1 row
  if isDue s1.supervisor.thermal c.pass row r && !r.queued then
    if Config.dueEntries ≤ s1.scheduler.due.length then
      { s1 with scheduler := { s1.scheduler with cursor := some { c with paused := true } } }
    else advanceScan c (appendDue row c.serial s1)
  else advanceScan c s1

/-- A scan visit, unless the cursor is idle or the scan is paused (R62, R67). -/
def scan (s : State) : State :=
  match s.scheduler.cursor with
  | none => s
  | some c => if c.paused then s else arbitrate (visitRow c s)

/-- The refresh engine's ROW REFRESH completes (R5, R74). -/
def rowRefreshDone (s : State) : State :=
  match s.port.operation with
  | some (.rowRefresh row) =>
    let s1 := closeDevice row.device (freePort s)
    arbitrate { s1 with scheduler := { s1.scheduler with refreshing := false } }
  | some (.rowClose _) | some (.hostAccess _ _ _ _ _ _ _) | some (.copyBurst _ _ _) | some (.patternBurst _ _ _ _)
  | some (.checkBurst _ _ _ _) | some (.initCycle _) | none => s

/-- SLICE_TIMER_EXPIRY (R58). No effect while the slice timer does not run. -/
def execSliceTimerExpiry (s : State) : Host.Outcome State Fault Refusal :=
  .next (whenRunning sliceExpired s)

/-- HELD_EXPIRY_TAKEN (R61). -/
def execHeldExpiryTaken (s : State) : Host.Outcome State Fault Refusal :=
  .next (whenRunning (fun t => arbitrate (releaseHeld t)) s)

/-- SCAN_VISIT (R63). No effect while the cursor is idle or the scan is paused. -/
def execScanVisit (s : State) : Host.Outcome State Fault Refusal :=
  .next (whenRunning scan s)

/-- FORCED_CLEAR (R73). -/
def execForcedClear (s : State) : Host.Outcome State Fault Refusal :=
  .next (whenRunning (fun t => arbitrate (testForced t)) s)

/-- ROW_REFRESH_COMPLETION (R74). No effect while no ROW REFRESH is on the port. -/
def execRowRefreshCompletion (s : State) : Host.Outcome State Fault Refusal :=
  .next (whenRunning rowRefreshDone s)

end Sys2Proof.Machine
end

