-- ==== Sys2Proof/Machine/Port.lean ====
section
/-! DEFINITION. Power-on reset, the power-up pause, initialisation, the arbiter's own command and the port's row close
(chapters 1 and 2). -/

namespace Sys2Proof.Machine

open Sys2Proof

/-- A close claim cleared, at an assertion of RSTIN# (R34). -/
def clearClaim (d : DeviceState) : DeviceState :=
  { d with closeClaim := false }

/-- The assertion of RSTIN# (R18): the operation in progress is cut off without a completion, every claim is cleared, a
conversion ends, the pause ends, and the part is without a controller state (R34, R96, R114, R154, R166). The rest stands
until the release, unread: the part does nothing while RSTIN# is low. -/
def assertReset (s : State) : State :=
  { s with
    controller := none
    port := { s.port with
      operation := none
      devices := { q0 := clearClaim s.port.devices.q0, q1 := clearClaim s.port.devices.q1,
                   q2 := clearClaim s.port.devices.q2, q3 := clearClaim s.port.devices.q3 }
      pause := .stopped }
    scheduler := { s.scheduler with refreshing := false }
    requests := { s.requests with access := none }
    copy := { s.copy with engine := .idle }
    supervisor := { s.supervisor with conversion := .idle } }

/-- The copy buffer's undefined contents after a release: free values (R18, R114, assumption 1). -/
def undefinedBuffer (cycle : Nat) : List Byte :=
  (List.range Config.burstColumns).map (fun i => Config.undefinedByte cycle (Config.arrayBytes + i))

/-- The release of RSTIN# (R166): the straps are sampled (R1) and every block takes its power-on values. The array's
contents are undefined from here on (R18, R96): nothing is listed, and unlisted bytes are new free values. -/
def releaseReset (straps : BitVec 2) (s : State) : State :=
  { State.reset with
    deviceCount := straps.toNat + 1
    copy := { CopyEngine.atReset with buffer := undefinedBuffer (s.powerCycle + 1) }
    powerCycle := s.powerCycle + 1
    pending := s.pending }

/-- The pause timer expires: the controller enters INIT and the initialisation sequence claims cycle 0 (R16, R17). -/
def pauseExpired (s : State) : State :=
  match s.controller with
  | some .powerup =>
    arbitrate { s with controller := some .init, port := { s.port with pause := .stopped, initCycle := 0 } }
  | some .init | some .ready | some .resetting | none => s

/-- The controller enters READY from INIT (R57, R166). -/
def enterReady (s : State) : State :=
  raiseEvent .initDone (startSliceTimer { s with controller := some .ready })

/-- An INIT CYCLE completes (R12, R17). -/
def initCycleDone (s : State) : State :=
  match s.port.operation with
  | some (.initCycle row) =>
    let s1 := closeDevice row.device (freePort s)
    let s2 := { s1 with port := { s1.port with initCycle := s1.port.initCycle + 1 } }
    arbitrate (if s2.port.initCycle < 8 * s2.deviceCount then s2 else enterReady s2)
  | some (.rowRefresh _) | some (.rowClose _) | some (.hostAccess _ _ _ _ _ _ _) | some (.copyBurst _ _ _)
  | some (.patternBurst _ _ _ _) | some (.checkBurst _ _ _ _) | none => s

/-- A ROW CLOSE completes (R6). -/
def rowCloseDone (s : State) : State :=
  match s.port.operation with
  | some (.rowClose d) => arbitrate (closeDevice d (freePort s))
  | some (.rowRefresh _) | some (.hostAccess _ _ _ _ _ _ _) | some (.copyBurst _ _ _) | some (.patternBurst _ _ _ _)
  | some (.checkBurst _ _ _ _) | some (.initCycle _) | none => s

/-- A device's open-row timer reaches its limit: it expires and the device's close claim is raised (R14, R15). -/
def openRowExpired (d : DeviceId) (s : State) : State :=
  if (deviceState s d).timer.isRunning then
    arbitrate (setDevice d { deviceState s d with timer := .expired, closeClaim := true } s)
  else s

/-- RSTIN_ASSERT (R18). -/
def execRstinAssert (s : State) : Host.Outcome State Fault Refusal :=
  .next (whenRunning assertReset s)

/-- RSTIN_RELEASE (R166). -/
def execRstinRelease (straps : BitVec 2) (s : State) : Host.Outcome State Fault Refusal :=
  .next (releaseReset straps s)

/-- POWER_UP_PAUSE_EXPIRY (R16). No effect outside POWERUP, where no pause runs. -/
def execPowerUpPauseExpiry (s : State) : Host.Outcome State Fault Refusal :=
  .next (whenRunning pauseExpired s)

/-- INIT_CYCLE_COMPLETION (R17). No effect while no INIT CYCLE is on the port. -/
def execInitCycleCompletion (s : State) : Host.Outcome State Fault Refusal :=
  .next (whenRunning initCycleDone s)

/-- GRANT (R26). No effect while the port is busy or no claim may be granted (R25). -/
def execGrant (s : State) : Host.Outcome State Fault Refusal :=
  .next (whenRunning arbitrate s)

/-- ROW_CLOSE_COMPLETION (R6). No effect while no ROW CLOSE is on the port. -/
def execRowCloseCompletion (s : State) : Host.Outcome State Fault Refusal :=
  .next (whenRunning rowCloseDone s)

/-- OPEN_ROW_TIMER_EXPIRY (R15). No effect while the device's timer does not run. -/
def execOpenRowTimerExpiry (device : DeviceId) (s : State) : Host.Outcome State Fault Refusal :=
  .next (whenRunning (openRowExpired device) s)

end Sys2Proof.Machine
end

