-- ==== Sys2Proof/Machine/Commands.lean ====
section
/-! DEFINITION. The command unit (sections 10.5 and 10.6) and the eight commands. -/

namespace Sys2Proof.Machine

open Sys2Proof

/-- What a command's tests decide: the first refusal, or the state with the accepted command's effects. -/
inductive Verdict where
  | refused (code : CommandStatus)
  | accepted (s : State)

/-- A write of a code to CMD (R170): CMD keeps the code; outside READY the command is refused with NOT_READY; else its own
tests decide, and CMD_STATUS takes ACCEPTED or the first refusal. -/
def takeCommand (code : Word) (body : State → Verdict) (s : State) : State :=
  let s1 := { s with host := { s.host with command := code } }
  if !isReady s1 then setCommandStatus .notReady s1
  else match body s1 with
    | .refused status => setCommandStatus status s1
    | .accepted s2 => arbitrate (setCommandStatus .accepted s2)

/-- The lowest-numbered IDLE context (R120). -/
def idleContext (s : State) : Option ContextId :=
  allContexts.find? (fun k => decide ((contextOf s k).state = .idle))

/-- The row may be probed or retired: its record is not RESERVED, RETIRED or PROBING and it has no redirect entry (R112,
R119). -/
def rowFree (s : State) (r : Row) : Bool :=
  match (recordOf s r).status with
  | .reserved => false
  | .retired => false
  | .probing => false
  | .unprofiled => !hasRedirect s r
  | .profiled => !hasRedirect s r
  | .suspect => !hasRedirect s r

/-- The step argument is valid: it is tested for CHECK alone (R119). -/
def stepValid (mode : ProbeMode) (step : Nat) : Bool :=
  match mode with
  | .search => true
  | .check => decide (1 ≤ step) && decide (step ≤ 16)

/-- The fields an accepted PROBE START gives its context (R120). -/
def startedContext (o : ProbeOperand) (mode : ProbeMode) (pattern : Pattern) (park : ReservedIndex) (c : ProbeContext) :
    ProbeContext :=
  { c with
    state := .parking, target := o.target, mode := mode, pattern := pattern, seed := o.seed,
    userPattern := if pattern = .user then some o.userPattern else none,
    trials := o.trials, step := match mode with
      | .search => 2
      | .check => o.step
    trial := 1, parkIndex := park, burstsDone := 0, mismatch := 0, firstFailing := none, lastPassed := 0,
    failingStep := none, failingMismatch := 0, prior := none, stretchTimer := .stopped, abortReason := none,
    outcome := none }

/-- The acceptance of PROBE START (R120). -/
def startProbe (o : ProbeOperand) (mode : ProbeMode) (pattern : Pattern) (k : ContextId) (i : ReservedIndex) (s : State) :
    State :=
  let s1 := setRedirect i { home := o.target, state := .parkCopying, owner := .context k } s
  let s2 := { s1 with
    copy := { s1.copy with
      queue := s1.copy.queue
        ++ [{ kind := .park, home := o.target, index := i, owner := .context k, progress := 0 }] } }
  setResults (wordOf k.val) (wordOf i.val) 0 0 (setContext k (startedContext o mode pattern i (contextOf s2 k)) s2)

/-- PROBE START's tests and effects (R119, R120). -/
def probeStartBody (s : State) : Verdict :=
  let o := probeOperand s.host.args s.host.patternArgs
  match o.mode, o.pattern with
  | some mode, some pattern =>
    if !devicePresent s o.target.device || o.trials < 1 || 4 < o.trials || !stepValid mode o.step then .refused .badArg
    else if !rowFree s o.target then .refused .rowBusy
    else if s.supervisor.thermal = .hot then .refused .thermal
    else match idleContext s with
      | none => .refused .noContext
      | some k =>
        match allocateIndex s o.target.device with
        | none => .refused .noReserve
        | some i => .accepted (startProbe o mode pattern k i s)
  | none, _ => .refused .badArg
  | some _, none => .refused .badArg

/-- The context is in a state that PROBE ABORT may stop (R134). -/
def abortable : ContextState → Bool
  | .parking => true
  | .writing => true
  | .stretch => true
  | .checking => true
  | .idle => false
  | .restoring => false
  | .done => false

/-- PROBE ABORT's tests and effects (R134). -/
def probeAbortBody (s : State) : Verdict :=
  if 4 ≤ s.host.args.q0.toNat then .refused .badArg
  else
    let k : ContextId := Fin.ofNat 4 s.host.args.q0.toNat
    if abortable (contextOf s k).state then .accepted (abortContext .host k s) else .refused .state

/-- The acceptance of RETIRE (R112). -/
def startRetire (home : Row) (i : ReservedIndex) (s : State) : State :=
  let s1 := setRedirect i { home := home, state := .spareCopying, owner := .command } s
  setResults (wordOf i.val) 0 0 0 { s1 with
    copy := { s1.copy with
      queue := s1.copy.queue ++ [{ kind := .retire, home := home, index := i, owner := .command, progress := 0 }]
      retire := some (home, i) } }

/-- RETIRE's tests and effects (R112). -/
def retireBody (s : State) : Verdict :=
  let home := rowOperand s.host.args.q3
  if !devicePresent s home.device then .refused .badArg
  else if !rowFree s home then .refused .rowBusy
  else if s.copy.retire.isSome then .refused .busy
  else match allocateIndex s home.device with
    | none => .refused .noReserve
    | some i => .accepted (startRetire home i s)

/-- A row's record in the result registers (R172). -/
def showRecord (r : Row) (s : State) : State :=
  let w := recordWords r (recordOf s r)
  setResults w.q0 w.q1 w.q2 w.q3 s

/-- RECORD READ's tests and effects (R172). -/
def recordReadBody (s : State) : Verdict :=
  let r := rowOperand s.host.args.q3
  if !devicePresent s r.device then .refused .badArg else .accepted (showRecord r s)

/-- The reserved row of an index is the target of a COPY BURST of an abandoned job still on the port (R111, R173). -/
def abandonedTarget (s : State) (i : ReservedIndex) : Bool :=
  match s.copy.engine, s.port.operation with
  | .copying true, some (.copyBurst _ target _) => decide (target = reservedRow i)
  | _, _ => false

/-- The record an accepted RECORD WRITE gives, but for RETIRED (R174). -/
def writtenRecord (o : RecordOperand) (status : RecordStatus) (epoch : Nat) (old : Record) : Record :=
  match status with
  | .profiled =>
    { old with status := .profiled, cls := o.cls, margin := o.margin, stamp := some epoch, spare := none }
  | .suspect => { old with status := .suspect, cls := 0, margin := o.margin, stamp := none, spare := none }
  | .unprofiled | .probing | .retired | .reserved =>
    { old with status := .unprofiled, cls := 0, margin := 0, stamp := none, spare := none }

/-- The acceptance of RECORD WRITE (R174). -/
def writeRecord (o : RecordOperand) (status : RecordStatus) (s : State) : State :=
  showRecord o.row (
    if status = .retired then
      retireRecord o.row o.spare (setRedirect o.spare { home := o.row, state := .spareActive, owner := .command } s)
    else setRecord o.row (writtenRecord o status s.scheduler.epoch (recordOf s o.row)) s)

/-- The class and margin written do not fit the status written (R173 test 5). -/
def inconsistent (o : RecordOperand) : RecordStatus → Bool
  | .profiled => !classAllowed o.cls o.margin
  | .suspect => decide (2 ≤ o.margin)
  | .unprofiled => false
  | .probing => false
  | .retired => false
  | .reserved => false

/-- RECORD WRITE's tests and effects (R173, R174). -/
def recordWriteBody (s : State) : Verdict :=
  let o := recordOperand s.host.args
  match o.status with
  | none => .refused .badArg
  | some status =>
    if !devicePresent s o.row.device || decide (16 < o.margin) then .refused .badArg
    else if isReservedRow o.row then .refused .reserved
    else if !rowFree s o.row then .refused .rowBusy
    else if inconsistent o status then .refused .inconsistent
    else if status == .retired && (!indexFree s o.spare || abandonedTarget s o.spare) then .refused .noReserve
    else .accepted (writeRecord o status s)

/-- LOG READ's tests and effects (R150). -/
def logReadBody (s : State) : Verdict :=
  match s.probes.log with
  | [] => .refused .empty
  | e :: _ =>
    let w := logWords e
    .accepted (setResults w.q0 w.q1 w.q2 w.q3 s)

/-- LOG POP's tests and effects (R151). -/
def logPopBody (s : State) : Verdict :=
  match s.probes.log with
  | [] => .refused .empty
  | _ :: rest => .accepted (serveWaiting { s with probes := { s.probes with log := rest } })

/-- TEMP SUPPLY's tests and effects (R155). -/
def tempSupplyBody (s : State) : Verdict :=
  if s.config.external then
    let s1 := readingArrives (clampReading s.host.args.q0.toInt) s
    .accepted { s1 with supervisor := { s1.supervisor with stale := 0 } }
  else .refused .mode

/-- A code outside 1 to 8 (R170). -/
def badCmdBody (_s : State) : Verdict :=
  .refused .badCmd

/-- The body of the command a code names (R170). -/
def commandBody (code : Word) : State → Verdict :=
  match code.toNat with
  | 1 => probeStartBody
  | 2 => probeAbortBody
  | 3 => retireBody
  | 4 => recordReadBody
  | 5 => recordWriteBody
  | 6 => logReadBody
  | 7 => logPopBody
  | 8 => tempSupplyBody
  | _ => badCmdBody

/-- PROBE_START (R119, R120). -/
def execProbeStart (s : State) : Host.Outcome State Fault Refusal :=
  .next (whenRunning (takeCommand 1 probeStartBody) s)

/-- PROBE_ABORT (R134). -/
def execProbeAbort (s : State) : Host.Outcome State Fault Refusal :=
  .next (whenRunning (takeCommand 2 probeAbortBody) s)

/-- RETIRE (R112). -/
def execRetire (s : State) : Host.Outcome State Fault Refusal :=
  .next (whenRunning (takeCommand 3 retireBody) s)

/-- RECORD_READ (R172). -/
def execRecordRead (s : State) : Host.Outcome State Fault Refusal :=
  .next (whenRunning (takeCommand 4 recordReadBody) s)

/-- RECORD_WRITE (R173, R174). -/
def execRecordWrite (s : State) : Host.Outcome State Fault Refusal :=
  .next (whenRunning (takeCommand 5 recordWriteBody) s)

/-- LOG_READ (R150). -/
def execLogRead (s : State) : Host.Outcome State Fault Refusal :=
  .next (whenRunning (takeCommand 6 logReadBody) s)

/-- LOG_POP (R151). -/
def execLogPop (s : State) : Host.Outcome State Fault Refusal :=
  .next (whenRunning (takeCommand 7 logPopBody) s)

/-- TEMP_SUPPLY (R155). -/
def execTempSupply (s : State) : Host.Outcome State Fault Refusal :=
  .next (whenRunning (takeCommand 8 tempSupplyBody) s)

/-- BAD_CMD (R170). A code within 1 to 8 is no operand of this row (WellFormed); the command it names is then taken. -/
def execBadCmd (code : Word) (s : State) : Host.Outcome State Fault Refusal :=
  .next (whenRunning (takeCommand code (commandBody code)) s)

end Sys2Proof.Machine
end

