-- ==== Sys2Proof/Machine/Window.lean ====
section
/-! DEFINITION. The register window (chapter 10): the soft reset, the event and configuration writes, the registers without
behaviour of their own, and what every register reads as. -/

namespace Sys2Proof.Machine

open Sys2Proof

/-! ### The soft reset (section 10.4) -/

/-- The request engine at the soft-reset write: queues, staging and cursor emptied, an access on the port marked discarded,
the request fields kept (R97). -/
def softResetRequests (e : RequestEngine) : RequestEngine :=
  { e with
    staging := [], requests := [], completions := [], cursor := 0,
    access := e.access.map (fun a => { a with discarded := true }) }

/-- The RETIRE job of the retire outstanding abandoned (R110, R115). -/
def abandonRetire (s : State) : State :=
  let s1 := abandonJob isRetire s
  { s1 with copy := { s1.copy with retire := none } }

/-- The command unit, the event flags, the masks and HOST_ERR cleared, HIRQ# released (R168 steps 6 and 7). -/
def clearHost (h : HostInterface) : HostInterface :=
  { h with
    events := 0, mask := 0, interrupt := false, error := .none, command := 0, status := .none,
    args := Quad.all 0, patternArgs := Quad.all 0, results := Quad.all 0 }

/-- The effects of the soft-reset write, in their order (R168). DESIGN CHOICE (assumption 26): a write that leaves nothing to
unwind leaves the part in READY again (R169), though R98, R139, R152 and R178 have a post or a command after the write find it in
RESETTING. -/
def softResetEffects (s : State) : State :=
  let s1 := { s with controller := some .resetting, requests := softResetRequests s.requests }
  let s2 := { s1 with probes := { s1.probes with log := [], waiting := [] } }
  let s3 := abortAll .reset (abandonRetire s2)
  testUnwind { s3 with host := clearHost s3.host }

/-- A write of CTRL: the soft-reset write if bit 0 is 1 and the controller is READY, ignored otherwise (R166). -/
def writeControl (value : Word) (s : State) : State :=
  if value.getLsbD 0 && isReady s then arbitrate (softResetEffects s) else s

/-! ### Event flags (section 10.7) -/

/-- A write of EVT clears each flag written with 1 (R176); HIRQ# is re-evaluated (R177). -/
def writeEvents (value : Word) (s : State) : State :=
  { s with host := HostInterface.evaluate { s.host with events := s.host.events &&& ~~~(value.setWidth 10) } }

/-- A write of EVT_MASK (R177). -/
def writeMask (value : Word) (s : State) : State :=
  { s with host := HostInterface.evaluate { s.host with mask := value.setWidth 10 } }

/-! ### Configuration writes (R165) -/

/-- A write of CFG_TBASE (R60). -/
def writeTbase (value : Word) (s : State) : State :=
  if 16 ≤ value.toNat ∧ value.toNat ≤ 256 then { s with config := { s.config with tbaseWritten := value.toNat } }
  else recordHostError .badConfig s

/-- A write of CFG_PAGE (R14): a running open-row timer keeps its length. -/
def writePage (value : Word) (s : State) : State :=
  if 8 ≤ bits value 0 7 ∧ bits value 0 7 ≤ 120 then
    { s with config := { s.config with rowLimit := bits value 0 7, pageOpen := value.getLsbD 15 } }
  else recordHostError .badConfig s

/-- A write of CFG_EPOCH (R49). -/
def writeEpochDivider (value : Word) (s : State) : State :=
  if 1 ≤ value.toNat ∧ value.toNat ≤ 4096 then { s with config := { s.config with epochDivider := value.toNat } }
  else recordHostError .badConfig s

/-- A write of CFG_AGE (R49). -/
def writeAgeLimit (value : Word) (s : State) : State :=
  if 1 ≤ value.toNat ∧ value.toNat ≤ 200 then { s with config := { s.config with ageLimit := value.toNat } }
  else recordHostError .badConfig s

/-- A threshold lies within the clamped range (R160). -/
def thresholdInRange (t : Int) : Bool :=
  decide (-40 ≤ t) && decide (t ≤ 125)

/-- A write of CFG_WARM (R160). -/
def writeWarm (value : Word) (s : State) : State :=
  if thresholdInRange value.toInt && decide (value.toInt < s.config.hotEnter) then
    { s with config := { s.config with warmEnter := value.toInt } }
  else recordHostError .badConfig s

/-- A write of CFG_HOT (R160). -/
def writeHot (value : Word) (s : State) : State :=
  if thresholdInRange value.toInt && decide (s.config.warmEnter < value.toInt) then
    { s with config := { s.config with hotEnter := value.toInt } }
  else recordHostError .badConfig s

/-- A write of CFG_MODE: hysteresis, sensor mode and auto-retire together (R153, R146). -/
def writeMode (value : Word) (s : State) : State :=
  if bits value 0 4 = 0 then recordHostError .badConfig s
  else
    let s1 := { s with
      config := { s.config with hysteresis := bits value 0 4, autoRetire := value.getLsbD 12 } }
    if value.getLsbD 8 = s.config.external then s1 else arbitrate (changeSensorMode (value.getLsbD 8) s1)

/-! ### Registers without behaviour of their own -/

/-- A write of a request field register (R79, Table 10-5). -/
def writeRequestField (address : BitVec 6) (value : Word) (e : RequestEngine) : RequestEngine :=
  match address.toNat with
  | 0x10 => { e with kindField := value.setWidth 3, deviceField := value.extractLsb' 4 2 }
  | 0x11 => { e with rowField := value.setWidth 10 }
  | 0x12 => { e with columnField := value.setWidth 8 }
  | 0x13 => { e with lengthField := value.setWidth 9 }
  | 0x14 => { e with tagField := value.setWidth 8, fillField := value.extractLsb' 8 8 }
  | _ => e

/-- A write of an argument register (R170, Table 10-1). -/
def writeArgument (address : BitVec 6) (value : Word) (h : HostInterface) : HostInterface :=
  match address.toNat with
  | 0x22 => { h with args := { h.args with q0 := value } }
  | 0x23 => { h with args := { h.args with q1 := value } }
  | 0x24 => { h with args := { h.args with q2 := value } }
  | 0x25 => { h with args := { h.args with q3 := value } }
  | 0x26 => { h with patternArgs := { h.patternArgs with q0 := value } }
  | 0x27 => { h with patternArgs := { h.patternArgs with q1 := value } }
  | 0x28 => { h with patternArgs := { h.patternArgs with q2 := value } }
  | 0x29 => { h with patternArgs := { h.patternArgs with q3 := value } }
  | _ => h

/-- A write that only stores a value, or that a read-only or unassigned address ignores (R164). -/
def storeRegister (address : BitVec 6) (value : Word) (s : State) : State :=
  { s with
    requests := writeRequestField address value s.requests
    host := writeArgument address value s.host }

/-- A write to any address (Table 10-1): the register it selects decides (R164). -/
def writeRegister (address : BitVec 6) (value : Word) (s : State) : State :=
  match address.toNat with
  | 0x02 => writeEvents value s
  | 0x03 => writeMask value s
  | 0x05 => writeControl value s
  | 0x06 => writeTbase value s
  | 0x07 => writePage value s
  | 0x08 => writeEpochDivider value s
  | 0x09 => writeAgeLimit value s
  | 0x0A => writeWarm value s
  | 0x0B => writeHot value s
  | 0x0C => writeMode value s
  | 0x15 => post s
  | 0x16 => stage value s
  | 0x1C => popCompletion s
  | 0x20 => takeCommand value (commandBody value) s
  | _ => storeRegister address value s

/-- STATE (Table 10-8a). -/
def stateWord (s : State) : Word :=
  wordOf ((s.controller.map Controller.code).getD 0 + bit s.scheduler.forced * 16 + s.supervisor.thermal.code * 256
    + s.deviceCount * 4096)

/-- TEMP_MEAN: the mean while the window is full, −128 otherwise (R156). -/
def temperatureMean (s : State) : Int :=
  if s.supervisor.window.length < Config.windowReadings then -128 else windowMean s.supervisor.window

/-- What a read of each address returns while RSTIN# is high (Table 10-1): 0 for a write-only or unassigned one (R164). A
read changes nothing but CQ_DATA's cursor, which CQ_DATA's own command advances. -/
def registerValue (s : State) (address : BitVec 6) : Word :=
  match address.toNat with
  | 0x00 => 0xD410
  | 0x01 => stateWord s
  | 0x02 => s.host.events.setWidth 16
  | 0x03 => s.host.mask.setWidth 16
  | 0x04 => wordOf s.host.error.code
  | 0x06 => wordOf s.config.tbaseWritten
  | 0x07 => wordOf (s.config.rowLimit + bit s.config.pageOpen * 32768)
  | 0x08 => wordOf s.config.epochDivider
  | 0x09 => wordOf s.config.ageLimit
  | 0x0A => signedWord s.config.warmEnter
  | 0x0B => signedWord s.config.hotEnter
  | 0x0C => wordOf (s.config.hysteresis + bit s.config.external * 256 + bit s.config.autoRetire * 4096)
  | 0x10 => wordOf (s.requests.kindField.toNat + s.requests.deviceField.toNat * 16)
  | 0x11 => wordOf s.requests.rowField.toNat
  | 0x12 => wordOf s.requests.columnField.toNat
  | 0x13 => wordOf s.requests.lengthField.toNat
  | 0x14 => wordOf (s.requests.tagField.toNat + s.requests.fillField.toNat * 256)
  | 0x17 => wordOf s.requests.staging.length
  | 0x18 => wordOf s.requests.requests.length
  | 0x19 => (s.requests.completions.head?.map (fun c => c.tag.setWidth 16)).getD 0
  | 0x1A => (s.requests.completions.head?.map completionWord).getD 0
  | 0x1B => completionData s
  | 0x20 => s.host.command
  | 0x21 => wordOf s.host.status.code
  | 0x22 => s.host.args.q0
  | 0x23 => s.host.args.q1
  | 0x24 => s.host.args.q2
  | 0x25 => s.host.args.q3
  | 0x26 => s.host.patternArgs.q0
  | 0x27 => s.host.patternArgs.q1
  | 0x28 => s.host.patternArgs.q2
  | 0x29 => s.host.patternArgs.q3
  | 0x2A => s.host.results.q0
  | 0x2B => s.host.results.q1
  | 0x2C => s.host.results.q2
  | 0x2D => s.host.results.q3
  | 0x30 => signedWord (s.supervisor.lastReading.getD (-128))
  | 0x31 => signedWord (temperatureMean s)
  | 0x32 => wordOf s.scheduler.due.length
  | 0x33 => wordOf s.scheduler.pass
  | 0x34 => wordOf s.scheduler.epoch
  | 0x35 => wordOf s.scheduler.pendingSlices
  | _ => 0

/-- What a host read of an address returns: 0 while RSTIN# is low (R164). -/
def readRegister (s : State) (address : BitVec 6) : Word :=
  if running s then registerValue s address else 0

/-! ### The commands -/

/-- SOFT_RESET (R168): a write of CTRL. -/
def execSoftReset (value : Word) (s : State) : Host.Outcome State Fault Refusal :=
  .next (whenRunning (writeControl value) s)

/-- EVT_WRITE (R176). -/
def execEvtWrite (value : Word) (s : State) : Host.Outcome State Fault Refusal :=
  .next (whenRunning (writeEvents value) s)

/-- EVT_MASK_WRITE (R177). -/
def execEvtMaskWrite (value : Word) (s : State) : Host.Outcome State Fault Refusal :=
  .next (whenRunning (writeMask value) s)

/-- CFG_TBASE_WRITE (R60). -/
def execCfgTbaseWrite (value : Word) (s : State) : Host.Outcome State Fault Refusal :=
  .next (whenRunning (writeTbase value) s)

/-- CFG_PAGE_WRITE (R14). -/
def execCfgPageWrite (value : Word) (s : State) : Host.Outcome State Fault Refusal :=
  .next (whenRunning (writePage value) s)

/-- CFG_EPOCH_WRITE (R49). -/
def execCfgEpochWrite (value : Word) (s : State) : Host.Outcome State Fault Refusal :=
  .next (whenRunning (writeEpochDivider value) s)

/-- CFG_AGE_WRITE (R49). -/
def execCfgAgeWrite (value : Word) (s : State) : Host.Outcome State Fault Refusal :=
  .next (whenRunning (writeAgeLimit value) s)

/-- CFG_WARM_WRITE (R160). -/
def execCfgWarmWrite (value : Word) (s : State) : Host.Outcome State Fault Refusal :=
  .next (whenRunning (writeWarm value) s)

/-- CFG_HOT_WRITE (R160). -/
def execCfgHotWrite (value : Word) (s : State) : Host.Outcome State Fault Refusal :=
  .next (whenRunning (writeHot value) s)

/-- CFG_MODE_WRITE (R153). -/
def execCfgModeWrite (value : Word) (s : State) : Host.Outcome State Fault Refusal :=
  .next (whenRunning (writeMode value) s)

/-- REGISTER_WRITE (R164). An address whose write has a row of its own is no operand of this row (WellFormed); the write is
then that register's. -/
def execRegisterWrite (address : BitVec 6) (value : Word) (s : State) : Host.Outcome State Fault Refusal :=
  .next (whenRunning (writeRegister address value) s)

end Sys2Proof.Machine
end

