-- ==== Sys2Proof/Machine/Clock.lean ====
section
/-! DEFINITION. What passes with time while no command waits: the time run of the timers (assumption 5). -/

namespace Sys2Proof.Machine

open Sys2Proof

/-- A running timer half a microsecond on, at most at its length: its expiry is an event of its own. -/
def Timer.tick : Timer → Timer
  | .running length elapsed => .running length (if elapsed < length then elapsed + 1 else elapsed)
  | .stopped => .stopped
  | .expired => .expired

/-- A device's open-row timer half a microsecond on. -/
def tickDevice (d : DeviceState) : DeviceState :=
  { d with timer := d.timer.tick }

/-- A context's stretch timer half a microsecond on. -/
def tickContext (c : ProbeContext) : ProbeContext :=
  { c with stretchTimer := c.stretchTimer.tick }

/-- Four things changed alike. -/
def Quad.map {α : Type} (f : α → α) (q : Quad α) : Quad α :=
  { q0 := f q.q0, q1 := f q.q1, q2 := f q.q2, q3 := f q.q3 }

/-- Every running timer's time run rises (R14, R16, R57, R126). -/
def tickTimers (s : State) : State :=
  { s with
    port := { s.port with devices := s.port.devices.map tickDevice, pause := s.port.pause.tick }
    scheduler := { s.scheduler with sliceTimer := s.scheduler.sliceTimer.tick }
    probes := { s.probes with contexts := s.probes.contexts.map tickContext } }

/-- The block with no command waiting: only time passes, and none while RSTIN# is low. -/
def idle (s : State) : State :=
  whenRunning tickTimers s

end Sys2Proof.Machine
end

