-- ==== Sys2Proof/Machine/Dispatch.lean ====
section
/-! DEFINITION. Each command's meaning, one arm per row of the table. -/

namespace Sys2Proof.Machine

open Sys2Proof

-- A command's effect on everything but the queue.
def exec (i : Instr) (s : State) : Host.Outcome State Fault Refusal :=
  match i with
  | .rstinAssert => Sys2Proof.Machine.execRstinAssert s
  | .rstinRelease straps => Sys2Proof.Machine.execRstinRelease straps s
  | .powerUpPauseExpiry => Sys2Proof.Machine.execPowerUpPauseExpiry s
  | .initCycleCompletion => Sys2Proof.Machine.execInitCycleCompletion s
  | .grant => Sys2Proof.Machine.execGrant s
  | .rowRefreshCompletion => Sys2Proof.Machine.execRowRefreshCompletion s
  | .rowCloseCompletion => Sys2Proof.Machine.execRowCloseCompletion s
  | .hostAccessCompletion decay => Sys2Proof.Machine.execHostAccessCompletion decay s
  | .failedHeadCompletion => Sys2Proof.Machine.execFailedHeadCompletion s
  | .copyBurstCompletion decay => Sys2Proof.Machine.execCopyBurstCompletion decay s
  | .unwindEnd => Sys2Proof.Machine.execUnwindEnd s
  | .patternBurstCompletion => Sys2Proof.Machine.execPatternBurstCompletion s
  | .checkBurstCompletion decay => Sys2Proof.Machine.execCheckBurstCompletion decay s
  | .logWaitAppend => Sys2Proof.Machine.execLogWaitAppend s
  | .openRowTimerExpiry device => Sys2Proof.Machine.execOpenRowTimerExpiry device s
  | .sliceTimerExpiry => Sys2Proof.Machine.execSliceTimerExpiry s
  | .externalSensorTimeout => Sys2Proof.Machine.execExternalSensorTimeout s
  | .heldExpiryTaken => Sys2Proof.Machine.execHeldExpiryTaken s
  | .scanVisit => Sys2Proof.Machine.execScanVisit s
  | .forcedClear => Sys2Proof.Machine.execForcedClear s
  | .stretchTimerExpiry context => Sys2Proof.Machine.execStretchTimerExpiry context s
  | .conversionCompletion measured => Sys2Proof.Machine.execConversionCompletion measured s
  | .softReset value => Sys2Proof.Machine.execSoftReset value s
  | .rqPost value => Sys2Proof.Machine.execRqPost value s
  | .stageData value => Sys2Proof.Machine.execStageData value s
  | .cqData => Sys2Proof.Machine.execCqData s
  | .cqPop value => Sys2Proof.Machine.execCqPop value s
  | .evtWrite value => Sys2Proof.Machine.execEvtWrite value s
  | .evtMaskWrite value => Sys2Proof.Machine.execEvtMaskWrite value s
  | .cfgTbaseWrite value => Sys2Proof.Machine.execCfgTbaseWrite value s
  | .cfgPageWrite value => Sys2Proof.Machine.execCfgPageWrite value s
  | .cfgEpochWrite value => Sys2Proof.Machine.execCfgEpochWrite value s
  | .cfgAgeWrite value => Sys2Proof.Machine.execCfgAgeWrite value s
  | .cfgWarmWrite value => Sys2Proof.Machine.execCfgWarmWrite value s
  | .cfgHotWrite value => Sys2Proof.Machine.execCfgHotWrite value s
  | .cfgModeWrite value => Sys2Proof.Machine.execCfgModeWrite value s
  | .registerWrite address value => Sys2Proof.Machine.execRegisterWrite address value s
  | .probeStart => Sys2Proof.Machine.execProbeStart s
  | .probeAbort => Sys2Proof.Machine.execProbeAbort s
  | .retire => Sys2Proof.Machine.execRetire s
  | .recordRead => Sys2Proof.Machine.execRecordRead s
  | .recordWrite => Sys2Proof.Machine.execRecordWrite s
  | .logRead => Sys2Proof.Machine.execLogRead s
  | .logPop => Sys2Proof.Machine.execLogPop s
  | .tempSupply => Sys2Proof.Machine.execTempSupply s
  | .badCmd code => Sys2Proof.Machine.execBadCmd code s

end Sys2Proof.Machine
end

