-- ==== Sys2Proof/Safety.lean ====
section
/-! DEFINITION. The laws of the manual, as properties of a state, in the terms the claims use. -/

namespace Sys2Proof.Machine

open Sys2Proof

/-! ### Containers -/

/-- The array's contents, the retention table and the redirect table stand in their canonical form: keys rising, no record
equal to its power-on value listed. -/
def tablesCanonical (s : State) : Prop :=
  Memory.wf s.array ∧ Sparse.rising s.records ∧ Sparse.rising s.redirects ∧
    ∀ r : Row, Sparse.find (rowKey r) s.records ≠ some (powerOnRecord r)

/-! ### Host interface -/

/-- The law of the interrupt (R177). -/
def interruptLaw (s : State) : Prop :=
  s.host.interrupt = true ↔ s.host.events &&& s.host.mask ≠ 0

/-- Every configuration quantity lies within its programmable range, and WARM_ENTER is below HOT_ENTER (R14, R49, R60, R153,
R160). -/
def configurationLaw (s : State) : Prop :=
  (16 ≤ s.config.tbaseWritten ∧ s.config.tbaseWritten ≤ 256) ∧ (16 ≤ s.scheduler.tbase ∧ s.scheduler.tbase ≤ 256) ∧
    (8 ≤ s.config.rowLimit ∧ s.config.rowLimit ≤ 120) ∧ (1 ≤ s.config.epochDivider ∧ s.config.epochDivider ≤ 4096) ∧
    (1 ≤ s.config.ageLimit ∧ s.config.ageLimit ≤ 200) ∧ (1 ≤ s.config.hysteresis ∧ s.config.hysteresis ≤ 15) ∧
    (-40 ≤ s.config.warmEnter ∧ s.config.warmEnter < s.config.hotEnter ∧ s.config.hotEnter ≤ 125)

/-! ### Queues -/

/-- No queue or counter passes its capacity (R29, R62, R69, R80, R81, R93, R149, R156, R159); while the head's access is on
the port the CQ has room for its completion (R86). -/
def capacityLaw (s : State) : Prop :=
  s.requests.requests.length ≤ 16 ∧ s.requests.completions.length ≤ 16 ∧ s.requests.staging.length ≤ 64 ∧
    s.scheduler.due.length ≤ 512 ∧ s.probes.log.length ≤ 8 ∧ s.supervisor.window.length ≤ 4 ∧
    s.supervisor.stale ≤ 3 ∧ s.port.hostGrants ≤ 8 ∧ s.scheduler.pendingSlices ≤ 15 ∧
    (liveAccess s = true → s.requests.completions.length < 16)

/-- The law of the due queue (R69): a row appears at most once, its queued flag is set exactly while it does, and no PROBING
or RETIRED row appears. -/
def dueQueueLaw (s : State) : Prop :=
  (s.scheduler.due.map DueEntry.row).Nodup ∧
    (∀ r : Row, (recordOf s r).queued = true ↔ r ∈ s.scheduler.due.map DueEntry.row) ∧
    ∀ r ∈ s.scheduler.due.map DueEntry.row,
      (recordOf s r).status ≠ .probing ∧ (recordOf s r).status ≠ .retired

/-- The pending slices and the cursor agree (R62): the cursor is idle exactly while the count is 0, and otherwise the pending
slices are the consecutive serials from the cursor's up to the current one; a HELD timer means 15 of them (R57). -/
def pendingLaw (s : State) : Prop :=
  s.scheduler.serial < 65536 ∧ s.scheduler.pendingSlices ≤ 15 ∧
    (s.scheduler.sliceTimer = .expired → s.scheduler.pendingSlices = 15) ∧
    match s.scheduler.cursor with
    | none => s.scheduler.pendingSlices = 0
    | some c => c.serial < 65536 ∧ 0 < s.scheduler.pendingSlices ∧
        (c.serial + s.scheduler.pendingSlices - 1) % 65536 = s.scheduler.serial ∧ c.row.val % 16 = c.serial % 16

/-! ### The port -/

/-- The port is never left free while a grantable claim waits (R25). -/
def neverIdle (s : State) : Prop :=
  s.port.operation = none → chooseClaim s = none

/-- The operation is a ROW REFRESH. -/
def PortOperation.isRefresh : PortOperation → Bool
  | .rowRefresh _ => true
  | .rowClose _ | .hostAccess _ _ _ _ _ _ _ | .copyBurst _ _ _ | .patternBurst _ _ _ _ | .checkBurst _ _ _ _
  | .initCycle _ => false

/-- The operation is a HOST ACCESS. -/
def PortOperation.isAccess : PortOperation → Bool
  | .hostAccess _ _ _ _ _ _ _ => true
  | .rowRefresh _ | .rowClose _ | .copyBurst _ _ _ | .patternBurst _ _ _ _ | .checkBurst _ _ _ _ | .initCycle _ => false

/-- The operation is a COPY BURST. -/
def PortOperation.isCopy : PortOperation → Bool
  | .copyBurst _ _ _ => true
  | .rowRefresh _ | .rowClose _ | .hostAccess _ _ _ _ _ _ _ | .patternBurst _ _ _ _ | .checkBurst _ _ _ _
  | .initCycle _ => false

/-- The engines are busy exactly while an operation of theirs is on the port (R20, R74, R90, R106). -/
def enginesLaw (s : State) : Prop :=
  s.scheduler.refreshing = s.port.operation.any PortOperation.isRefresh ∧
    s.requests.access.isSome = s.port.operation.any PortOperation.isAccess ∧
    (s.copy.engine ≠ .idle ↔ s.port.operation.any PortOperation.isCopy = true)

/-- The operation on the port addresses a device otherwise than by a hit HOST ACCESS. -/
def addressedByMiss (s : State) (d : DeviceId) : Bool :=
  match s.port.operation with
  | none => false
  | some op => op.devices.contains d && !op.isHit

/-- The open-row timers (R14, R15): while RSTIN# is high a close claim is raised exactly while its timer is EXPIRED, and a
timer is RUNNING or EXPIRED exactly while its device is OPEN, except during the busy interval of an operation granted on that
device (a hit keeps it OPEN throughout); and a hit's target is the open row. -/
def openRowLaw (s : State) : Prop :=
  (running s = true → ∀ d : DeviceId,
    ((deviceState s d).closeClaim = true ↔ (deviceState s d).timer = .expired) ∧
    (addressedByMiss s d = true → (deviceState s d).timer = .stopped) ∧
    (addressedByMiss s d = false → ((deviceState s d).timer ≠ .stopped ↔ (deviceState s d).openRow.isSome))) ∧
  ∀ target kind column length bytes pageOpen,
    s.port.operation = some (.hostAccess target kind column length bytes pageOpen true) →
    (deviceState s target.device).openRow = some target.number

/-! ### Records, entries, jobs and contexts -/

/-- The class and margin that a status admits (Table 3-2): 0 and 0 but for PROFILED, whose margin is at most 16 and allows the
class, and SUSPECT, whose margin is 0 or 1. -/
def classAndMarginFit (status : RecordStatus) (cls margin : Nat) : Bool :=
  match status with
  | .profiled => classAllowed cls margin && decide (margin ≤ 16)
  | .suspect => decide (cls = 0) && decide (margin ≤ 1)
  | .unprofiled => decide (cls = 0) && decide (margin = 0)
  | .probing => decide (cls = 0) && decide (margin = 0)
  | .retired => decide (cls = 0) && decide (margin = 0)
  | .reserved => decide (cls = 0) && decide (margin = 0)

/-- A stamp or an age that is there is an epoch counter's value, 0 to 255. -/
def epochValue (value : Option Nat) : Bool :=
  value.any (fun n => decide (n < 256))

/-- A record lies within the domains of its status (R37, R45, R53, Table 3-2). -/
def recordFits (r : Record) : Prop :=
  classAndMarginFit r.status r.cls r.margin = true ∧
    (if r.status = .profiled then epochValue r.stamp = true else r.stamp = none) ∧
    (if r.status = .retired then r.spare.isSome = true else r.spare = none) ∧
    (r.status = .probing ∨ r.status = .retired → r.queued = false)

/-- The steps and margins a context measures stay within the SEARCH ladder and a CHECK's range, 1 to 16 (R119, R130). -/
def stepsFit (c : ProbeContext) : Prop :=
  c.step ≤ 16 ∧ c.lastPassed ≤ 16 ∧
    (c.state = .checking ∨ c.state = .stretch ∨ c.state = .writing ∨ c.state = .parking → c.mode = .search →
      c.step = 2 ∨ c.step = 4 ∨ c.step = 8 ∨ c.step = 16)

/-- The law of the records: every record lies within the domains of its status, and so do the records that contexts have saved
or will give, the steps they measure and the epoch counter. -/
def recordLaw (s : State) : Prop :=
  s.scheduler.epoch < 256 ∧ (∀ r : Row, recordFits (recordOf s r)) ∧
    ∀ k : ContextId, stepsFit (contextOf s k) ∧
      (∀ p, (contextOf s k).prior = some p → classAndMarginFit p.status p.cls p.margin = true ∧
        (p.status = .profiled → epochValue p.age = true)) ∧
      ∀ o, (contextOf s k).outcome.bind PendingOutcome.record = some o →
        classAndMarginFit o.status o.cls o.margin = true

/-- The law of the redirect table (R100): no two entries for one home row; every entry's reserved row exists. That no two
entries name one reserved row is the table's canonical form. -/
def redirectLaw (s : State) : Prop :=
  Sparse.rising s.redirects ∧ (∀ p ∈ s.redirects, p.1 < 2 * s.deviceCount) ∧
    (s.redirects.map (fun p => p.2.home)).Nodup ∧ s.deviceCount ≤ 4

/-- A context in PARKING, WRITING, STRETCH, CHECKING or RESTORING (R118). -/
def ContextState.active : ContextState → Bool
  | .parking => true
  | .writing => true
  | .stretch => true
  | .checking => true
  | .restoring => true
  | .idle => false
  | .done => false

/-- The state of the PARK entry an active context owns. -/
def ContextState.entryState : ContextState → RedirectState
  | .parking => .parkCopying
  | .writing => .parkHeld
  | .stretch => .parkHeld
  | .checking => .parkHeld
  | .restoring => .parkRestoring
  | .idle => .parkRestoring
  | .done => .parkRestoring

/-- The number of copy jobs a context in a state has queued (R105). -/
def ContextState.jobs : ContextState → Nat
  | .parking => 1
  | .restoring => 1
  | .writing => 0
  | .stretch => 0
  | .checking => 0
  | .idle => 0
  | .done => 0

/-- The kind of the copy job of a context that has one. -/
def ContextState.jobKind : ContextState → JobKind
  | .parking => .park
  | .restoring => .restore
  | .writing => .restore
  | .stretch => .restore
  | .checking => .restore
  | .idle => .restore
  | .done => .restore

/-- A copy job serves its owner's entry (R104): a context's PARK or RESTORE of its own target, or the RETIRE of the retire
outstanding. -/
def jobServes (s : State) (j : CopyJob) : Prop :=
  j.progress < 8 ∧
    match j.owner with
    | .context k =>
      j.kind = (contextOf s k).state.jobKind ∧ (contextOf s k).state.jobs = 1 ∧ j.home = (contextOf s k).target ∧
        j.index = (contextOf s k).parkIndex
    | .command => j.kind = .retire ∧ s.copy.retire = some (j.home, j.index)

/-- The contexts and the log (R126, R147): a context is in DONE exactly while it is in the wait order, once; contexts wait only
while the log is full; and a stretch timer runs exactly in STRETCH. -/
def logLaw (s : State) : Prop :=
  s.probes.waiting.Nodup ∧ (∀ k : ContextId, (contextOf s k).state = .done ↔ k ∈ s.probes.waiting) ∧
    (s.probes.waiting ≠ [] → s.probes.log.length = 8) ∧ s.probes.log.length ≤ 8 ∧
    ∀ k : ContextId, (contextOf s k).stretchTimer.isRunning = true ↔ (contextOf s k).state = .stretch

/-- The laws of the probe contexts, the copy queue and the retire outstanding (R105, R112, R118): every active context owns
exactly one PARK entry, in the state its own state gives, and each PARK entry is owned by exactly one such context; a context
has one job queued in PARKING and RESTORING and none otherwise; the retire outstanding has one RETIRE job and a SPARE/COPYING
entry, and no other job or SPARE/COPYING entry exists. The law of the log stands with it, since an appended log entry frees a
context. -/
def probeLaw (s : State) : Prop :=
  redirectLaw s ∧ logLaw s ∧
    (∀ k : ContextId, (contextOf s k).state.active = true →
      redirectAt s (contextOf s k).parkIndex
        = some { home := (contextOf s k).target, state := (contextOf s k).state.entryState, owner := .context k }) ∧
    (∀ i : ReservedIndex, ∀ e, redirectAt s i = some e →
      match e.owner with
      | .context k => (contextOf s k).state.active = true ∧ (contextOf s k).parkIndex = i
      | .command => e.state.isPark = false ∧ (e.state = .spareCopying ↔ s.copy.retire = some (e.home, i))) ∧
    (∀ home i, s.copy.retire = some (home, i) →
      redirectAt s i = some { home := home, state := .spareCopying, owner := .command }) ∧
    (∀ j ∈ s.copy.queue, jobServes s j) ∧
    (∀ k : ContextId, s.copy.queue.countP (fun j => j.owner == .context k) = (contextOf s k).state.jobs) ∧
    s.copy.queue.countP (fun j => j.owner == .command) = (if s.copy.retire.isSome then 1 else 0)

/-- A status that a saved prior record or an outcome that restores may have: UNPROFILED, PROFILED or SUSPECT (R51, R140). -/
def RecordStatus.open : RecordStatus → Bool
  | .unprofiled => true
  | .profiled => true
  | .suspect => true
  | .probing => false
  | .retired => false
  | .reserved => false

/-- Where a row's data lives and what its record says agree (R41 to R43, R53, R102): reserved rows and they alone are RESERVED;
a row is PROBING exactly while it has a PARK/HELD or PARK/RESTORING entry, and RETIRED exactly while it has a SPARE/ACTIVE
one, at the record's spare index. -/
def placeLaw (s : State) : Prop :=
  probeLaw s ∧
    (∀ r : Row, (recordOf s r).status = .reserved ↔ isReservedRow r = true) ∧
    (∀ i : ReservedIndex, ∀ e, redirectAt s i = some e →
      match e.state with
      | .parkCopying => (recordOf s e.home).status.open = true
      | .spareCopying => (recordOf s e.home).status.open = true
      | .parkHeld => (recordOf s e.home).status = .probing
      | .parkRestoring => (recordOf s e.home).status = .probing
      | .spareActive => (recordOf s e.home).status = .retired ∧ (recordOf s e.home).spare = some i) ∧
    (∀ r : Row, (recordOf s r).status = .probing ∨ (recordOf s r).status = .retired → hasRedirect s r = true) ∧
    (∀ k : ContextId, (contextOf s k).state.active = true → (contextOf s k).state ≠ .parking →
      (∃ p, (contextOf s k).prior = some p ∧ p.status.open = true) ∧
      ((contextOf s k).state = .restoring → (contextOf s k).abortReason = none →
        ∃ o, (contextOf s k).outcome.bind PendingOutcome.record = some o ∧ o.status.open = true))

/-- The law of probes and temperature (R137): in HOT no context is in PARKING, WRITING, STRETCH or CHECKING; and the window
being short of four readings means HOT (R157). -/
def thermalLaw (s : State) : Prop :=
  (s.supervisor.window.length < 4 → s.supervisor.thermal = .hot) ∧
    (s.supervisor.thermal = .hot → ∀ k : ContextId, abortable (contextOf s k).state = false)

/-- FORCED does not outlast its conditions (R73): while it is set, an urgent entry stands in the due queue or a slice is
pending. -/
def forcedLaw (s : State) : Prop :=
  s.scheduler.forced = true → forcedMayClear s = false

/-- A failed head waits for room alone (R85, R86): while RSTIN# is high, a head is FAILED only while the CQ is full. -/
def failedHeadLaw (s : State) : Prop :=
  running s = true → headCondition s = some .failed → completionRoom s = false

/-- Outside READY (R138, R167, R169): while the controller is in POWERUP, INIT or RESETTING the request engine's queues and the
log are empty; in POWERUP and INIT every context is IDLE, since PROBE START is refused there; and in RESETTING the unwind has not
ended, no retire is outstanding, and every context is IDLE or brings its row home with reason RESET. -/
def unreadyLaw (s : State) : Prop :=
  probeLaw s ∧
    (running s = true → isReady s = false →
      s.requests.requests = [] ∧ s.requests.completions = [] ∧ s.requests.staging = [] ∧ s.probes.log = [] ∧
        liveAccess s = false) ∧
    (s.controller = some .powerup ∨ s.controller = some .init → ∀ k : ContextId, (contextOf s k).state = .idle) ∧
    (s.controller = some .resetting → unwindEnded s = false ∧ s.copy.retire = none ∧
      ∀ k : ContextId, (contextOf s k).state = .idle ∨
        ((contextOf s k).state = .restoring ∧ (contextOf s k).abortReason = some .reset))

/-! ### Terms of the claims -/

/-- A state in which the event flags of a word have been raised and HIRQ# evaluated anew (R176, R177). -/
def withEvents (flags : BitVec 10) (s : State) : State :=
  { s with
    host := { s.host with
      events := s.host.events ||| flags
      interrupt := decide ((s.host.events ||| flags) &&& s.host.mask ≠ 0) } }

/-- A state in which a host error has been recorded: its code in HOST_ERR and HOST_ERROR, bit 3 of EVT, raised (R175). -/
def withHostError (code : HostError) (s : State) : State :=
  withEvents 0x008#10 { s with host := { s.host with error := code } }

/-- The status a request completes with where it fails an execution check, the first that fails deciding (R84). -/
def requestFailure (deviceCount : Nat) (q : Request) : Option CompletionStatus :=
  if deviceCount ≤ q.row.device.val then some .nodev
  else if 1022 ≤ q.row.number.val then some .reserved
  else if q.length = 0 ∨ (q.kind = .fill ∧ 256 < q.length) ∨ (q.kind ≠ .fill ∧ 32 < q.length) ∨ 256 < q.column + q.length
    then some .bounds
  else none

/-- The completions of the failing requests at the front of a queue, as many as the CQ has room for (R84, R85). -/
def failedCompletions (deviceCount room : Nat) (queue : List Request) : List Completion :=
  ((queue.takeWhile (fun q => (requestFailure deviceCount q).isSome)).take room).map (fun q =>
    { tag := q.tag, status := (requestFailure deviceCount q).getD .ok, redirected := false, length := q.length, data := none })

/-- What a COPY BURST leaves behind (R9, R13), before the copy engine counts it: the 32 columns of the source row stand in the
target row and in the copy buffer, decayed cells of the source included, every other byte is as before, and both devices are
CLOSED. -/
def copyBurstEffect (decay : Decay) (source target : Row) (burst : Nat) (s u : State) : Prop :=
  let held := fun (r : Row) (c : Column) =>
    if r = source then ((decay.find? (fun cell => cell.1 == c)).map Prod.snd).getD (readByte s r c.val)
    else readByte s r c.val
  (∀ (r : Row) (c : Column), readByte u r c.val =
    if r = target ∧ 32 * burst ≤ c.val ∧ c.val < 32 * burst + 32 then held source c else held r c) ∧
  u.copy.buffer = readBytes u source (32 * burst) 32 ∧
  u.port = { s.port with operation := none, devices := u.port.devices } ∧
  ∀ d, deviceState u d =
    if d = source.device ∨ d = target.device then { deviceState s d with openRow := none } else deviceState s d

/-- What a CHECK BURST leaves behind (R11, R13, R127), before the context counts it: the row holds what the stage's first burst
found, every other byte is as before, the port is free and the device CLOSED. -/
def checkBurstEffect (decay : Decay) (row : Row) (burst : Nat) (s u : State) : Prop :=
  (∀ (r : Row) (column : Column), readByte u r column.val =
    if r = row ∧ burst = 0 then ((decay.find? (fun cell => cell.1 == column)).map Prod.snd).getD (readByte s r column.val)
    else readByte s r column.val) ∧
  u.port = { s.port with operation := none, devices := u.port.devices } ∧
  ∀ d, deviceState u d = if d = row.device then { deviceState s d with openRow := none } else deviceState s d

/-- The log entry of a context that ends with an outcome (R148). -/
def loggedEntry (k : ContextId) (c : ProbeContext) (outcome : PendingOutcome) : LogEntry :=
  let failing := if outcome.name = .aborted then none else c.failingStep
  { context := k, row := c.target, mode := c.mode, outcome := outcome.name
    newClass := match outcome.record with
      | some r => if r.status = .profiled then some r.cls else none
      | none => none
    margin := c.lastPassed, failingStep := failing
    mismatch := if failing = none then 0 else c.failingMismatch
    firstFailing := if failing = none then none else c.firstFailing
    abortReason := if outcome.name = .aborted then c.abortReason else none }

/-- What an entry into HOT does to the probes (R135 to R137, R147). Contexts in PARKING give up their park: their jobs and
entries are gone, and in ascending order they log ABORTED with reason THERMAL and are IDLE as far as the log has room, and wait
in DONE behind it. Contexts in WRITING, STRETCH and CHECKING are RESTORING with reason THERMAL, their timers STOPPED, their
entries PARK/RESTORING and their RESTORE jobs at the tail of the copy queue in ascending order. Every other context, entry and
job stays. A burst of an abandoned job on the port will be discarded (R111). -/
def heatAborted (s u : State) : Prop :=
  let inOrder : List ContextId := [0, 1, 2, 3]
  let parking := inOrder.filter (fun k => decide ((contextOf s k).state = .parking))
  let returning := inOrder.filter (fun k => decide ((contextOf s k).state = .writing ∨ (contextOf s k).state = .stretch ∨
    (contextOf s k).state = .checking))
  let room := 8 - s.probes.log.length
  let aborted : PendingOutcome := { name := .aborted, record := none }
  (∀ k, contextOf u k =
    if k ∈ parking then { contextOf s k with
      state := if k ∈ parking.take room then .idle else .done, abortReason := some .thermal, outcome := some aborted }
    else if k ∈ returning then { contextOf s k with
      state := .restoring, abortReason := some .thermal, stretchTimer := .stopped }
    else contextOf s k) ∧
  u.probes.log = s.probes.log ++ (parking.take room).map (fun k =>
    loggedEntry k { contextOf s k with abortReason := some .thermal } aborted) ∧
  u.probes.waiting = s.probes.waiting ++ parking.drop room ∧
  u.copy.queue = s.copy.queue.filter (fun j => decide (j.kind ≠ .park)) ++ returning.map (fun k =>
    { kind := .restore, home := (contextOf s k).target, index := (contextOf s k).parkIndex, owner := .context k
      progress := 0 }) ∧
  u.copy = { s.copy with queue := u.copy.queue, engine := match s.copy.engine with
    | .idle => .idle
    | .copying abandoned => .copying (abandoned || s.copy.queue.head?.any (fun j => decide (j.kind = .park))) } ∧
  (∀ i, redirectAt u i = match redirectAt s i with
    | none => none
    | some e => match e.state with
      | .parkCopying => none
      | .parkHeld => some { e with state := .parkRestoring }
      | .parkRestoring => some e
      | .spareCopying => some e
      | .spareActive => some e) ∧
  u.host.events.getLsbD 4 = (s.host.events.getLsbD 4 || decide (parking.take room ≠ []))

/-- What the external-sensor timeout leaves behind (R159): the window is empty, the staleness count 0 and the thermal state HOT;
SENSOR_STALE is raised, THERMAL_CHANGE only where the state was another, and only then are the probes aborted. -/
def sensorTimedOut (s u : State) : Prop :=
  u.supervisor = { s.supervisor with window := [], stale := 0, thermal := .hot } ∧ u.host.events.getLsbD 7 = true ∧
  (u.host.events.getLsbD 6 = (s.host.events.getLsbD 6 || decide (s.supervisor.thermal ≠ .hot))) ∧
  (s.supervisor.thermal = .hot → u.probes = s.probes ∧ u.copy = s.copy ∧ u.redirects = s.redirects) ∧
  (s.supervisor.thermal ≠ .hot → (∀ k, abortable (contextOf u k).state = false) ∧ (probeLaw s → heatAborted s u))

/-- What a slice expiry leaves behind when it is taken and the slice timer runs anew (R57 to R59, R61, R72, R154, R159), from the
state `s` before it. -/
def expiryTaken (s u : State) : Prop :=
  let serial := (s.scheduler.serial + 1) % 65536
  let pass := (s.scheduler.pass + 1) % 65536
  let overrun : Prop := 0 < s.scheduler.pendingSlices ∨
    ∃ e rest, s.scheduler.due = e :: rest ∧ 2 ≤ (serial + 65536 - e.stamp) % 65536
  let timesOut : Prop := serial % 16 = 0 ∧ s.config.external = true ∧ 3 ≤ s.supervisor.stale
  u.scheduler.serial = serial ∧ u.scheduler.pendingSlices = s.scheduler.pendingSlices + 1 ∧
  u.scheduler.sliceTimer = .running (u.scheduler.tbase * 125) 0 ∧ u.scheduler.due = s.scheduler.due ∧
  (serial % 16 = 0 → u.scheduler.pass = pass ∧ u.scheduler.tbase = s.config.tbaseWritten ∧
    u.scheduler.epoch = if pass % s.config.epochDivider = 0 then (s.scheduler.epoch + 1) % 256 else s.scheduler.epoch) ∧
  (serial % 16 ≠ 0 → u.scheduler.pass = s.scheduler.pass ∧ u.scheduler.tbase = s.scheduler.tbase ∧
    u.scheduler.epoch = s.scheduler.epoch ∧ u.supervisor = s.supervisor) ∧
  (serial % 16 = 0 → s.config.external = false → s.supervisor.conversion = .idle →
    u.supervisor = { s.supervisor with conversion := .converting false }) ∧
  (serial % 16 = 0 → s.config.external = false → s.supervisor.conversion ≠ .idle → u.supervisor = s.supervisor) ∧
  (serial % 16 = 0 → s.config.external = true → s.supervisor.stale < 3 →
    u.supervisor = { s.supervisor with stale := s.supervisor.stale + 1 }) ∧
  (overrun → u.scheduler.forced = true ∧ u.host.events.getLsbD 8 = true) ∧
  (¬ overrun → u.scheduler.forced = s.scheduler.forced ∧ u.host.events.getLsbD 8 = s.host.events.getLsbD 8) ∧
  (0 < s.scheduler.pendingSlices → u.scheduler.cursor = s.scheduler.cursor) ∧
  (s.scheduler.pendingSlices = 0 → ∃ row, row.val = serial % 16 ∧
    u.scheduler.cursor = some { serial := serial, pass := u.scheduler.pass, device := 0, row := row, paused := false }) ∧
  (timesOut → sensorTimedOut s u) ∧
  (¬ timesOut → u.probes = s.probes ∧ u.copy = s.copy ∧ u.redirects = s.redirects ∧
    (overrun → u.host = (withEvents 0x100#10 s).host) ∧ (¬ overrun → u.host = s.host)) ∧
  u.scheduler.refreshing = s.scheduler.refreshing ∧ u.records = s.records ∧ u.requests = s.requests ∧ u.port = s.port ∧
  u.array = s.array ∧ u.config = s.config ∧ u.controller = s.controller ∧ u.deviceCount = s.deviceCount

/-- What the soft-reset write does to the probes and the copies (R115, R138). Contexts in PARKING are IDLE, their jobs and entries
gone; contexts in DONE are IDLE; contexts in WRITING, STRETCH and CHECKING are RESTORING, their entries PARK/RESTORING, their
RESTORE jobs at the tail in ascending order behind the RESTORE jobs that were there; contexts in RESTORING change their reason
alone; a RETIRE job and its entry are gone. A burst of an abandoned job on the port will be discarded (R111). -/
def resetAborted (s u : State) : Prop :=
  let inOrder : List ContextId := [0, 1, 2, 3]
  let returning := inOrder.filter (fun k => decide ((contextOf s k).state = .writing ∨ (contextOf s k).state = .stretch ∨
    (contextOf s k).state = .checking))
  (∀ k, contextOf u k = match (contextOf s k).state with
    | .idle => contextOf s k
    | .parking => { contextOf s k with state := .idle, abortReason := some .reset, outcome := none }
    | .writing => { contextOf s k with state := .restoring, abortReason := some .reset, stretchTimer := .stopped }
    | .stretch => { contextOf s k with state := .restoring, abortReason := some .reset, stretchTimer := .stopped }
    | .checking => { contextOf s k with state := .restoring, abortReason := some .reset, stretchTimer := .stopped }
    | .restoring => { contextOf s k with abortReason := some .reset }
    | .done => { contextOf s k with state := .idle, outcome := none }) ∧
  u.probes.log = [] ∧ u.probes.waiting = [] ∧
  u.copy = {
    engine := match s.copy.engine with
      | .idle => .idle
      | .copying abandoned => .copying (abandoned || s.copy.queue.head?.any (fun j => decide (j.kind ≠ .restore)))
    buffer := s.copy.buffer
    queue := s.copy.queue.filter (fun j => decide (j.kind = .restore)) ++ returning.map (fun k =>
      { kind := .restore, home := (contextOf s k).target, index := (contextOf s k).parkIndex, owner := .context k
        progress := 0 })
    retire := none } ∧
  ∀ i, redirectAt u i = match redirectAt s i with
    | none => none
    | some e => match e.state with
      | .parkCopying => none
      | .parkHeld => some { e with state := .parkRestoring }
      | .parkRestoring => some e
      | .spareCopying => none
      | .spareActive => some e

/-- The place of a claim in Table 2-2, the first column while the consecutive-host-grant count is below 8, the second at 8;
a claim the last column skips is not grantable under FORCED. The initialisation sequence's claim stands before all. -/
def Claim.rank (s : State) : Claim → Nat
  | .init => 0
  | .close d => 1 + d.val
  | .refresh urgent => if urgent then 5 else 12
  | .request => if s.port.hostGrants = 8 then 11 else 6
  | .copy => if s.port.hostGrants = 8 then 6 else 7
  | .probe k => if s.port.hostGrants = 8 then 7 + k.val else 8 + k.val

/-- FORCED skips request, copy and probe claims and no others (R27). -/
def Claim.grantable (s : State) : Claim → Bool
  | .init => true
  | .close _ => true
  | .refresh _ => true
  | .request => !s.scheduler.forced
  | .copy => !s.scheduler.forced
  | .probe _ => !s.scheduler.forced

/-- The power-on column of Table 10-1: what each address reads as after the release of RSTIN# with given straps. -/
def powerOnWord (straps : BitVec 2) (address : BitVec 6) : Word :=
  match address.toNat with
  | 0x00 => 0xD410
  | 0x01 => BitVec.ofNat 16 (0x0200 + (straps.toNat + 1) * 0x1000)
  | 0x06 => 64
  | 0x07 => 60
  | 0x08 => 64
  | 0x09 => 100
  | 0x0A => 70
  | 0x0B => 85
  | 0x0C => 5
  | 0x30 => 0xFF80
  | 0x31 => 0xFF80
  | _ => 0

/-- The command a code written to CMD takes (R170). -/
def commandOfCode (code : Word) : Instr :=
  match code.toNat with
  | 1 => .probeStart
  | 2 => .probeAbort
  | 3 => .retire
  | 4 => .recordRead
  | 5 => .recordWrite
  | 6 => .logRead
  | 7 => .logPop
  | 8 => .tempSupply
  | _ => .badCmd code

/-- The row an ARG3 names is free to be probed, retired or written: not RESERVED, RETIRED or PROBING, and without a redirect
entry (R112, R119). -/
def rowIsFree (s : State) (r : Row) : Bool :=
  (recordOf s r).status.open && !hasRedirect s r

/-- The tests of each command in their order: what must hold, and the code that refuses where it does not (R112, R119, R134,
R150, R151, R155, R170, R172, R173). -/
def commandTests (code : Word) (s : State) : List (Bool × CommandStatus) :=
  let w0 := s.host.args.q0
  let row := rowOperand s.host.args.q3
  let present := decide (bits s.host.args.q3 12 2 < s.deviceCount)
  let reserveFree := allIndices.any (indexFree s)
  (isReady s, .notReady) :: match code.toNat with
  | 1 =>
    [(present && decide (bits w0 4 2 ≤ 1) && decide (bits w0 0 3 ≤ 4) && decide (1 ≤ bits w0 8 3) && decide (bits w0 8 3 ≤ 4)
        && (decide (bits w0 4 2 = 0) || (decide (1 ≤ bits w0 11 5) && decide (bits w0 11 5 ≤ 16))), .badArg),
      (rowIsFree s row, .rowBusy), (decide (s.supervisor.thermal ≠ .hot), .thermal),
      (allContexts.any (fun k => decide ((contextOf s k).state = .idle)), .noContext), (reserveFree, .noReserve)]
  | 2 =>
    [(decide (w0.toNat < 4), .badArg), (abortable (contextOf s (Fin.ofNat 4 w0.toNat)).state, .state)]
  | 3 =>
    [(present, .badArg), (rowIsFree s row, .rowBusy), (s.copy.retire.isNone, .busy), (reserveFree, .noReserve)]
  | 4 => [(present, .badArg)]
  | 5 =>
    let status := bits w0 0 3
    let margin := bits w0 8 5
    let spare : ReservedIndex := Fin.ofNat 8 (bits s.host.args.q2 0 3)
    [(present && [0, 1, 2, 4].contains status && decide (margin ≤ 16), .badArg), (!isReservedRow row, .reserved),
      (rowIsFree s row, .rowBusy),
      (!(decide (status = 1) && !classAllowed (bits w0 4 2) margin) && !(decide (status = 2) && decide (2 ≤ margin)),
        .inconsistent),
      (!decide (status = 4) || (indexFree s spare && !abandonedTarget s spare), .noReserve)]
  | 6 => [(!s.probes.log.isEmpty, .empty)]
  | 7 => [(!s.probes.log.isEmpty, .empty)]
  | 8 => [(s.config.external, .mode)]
  | _ => [(false, .badCmd)]

/-- The refusal of the first test that fails. -/
def firstRefusal (code : Word) (s : State) : Option CommandStatus :=
  ((commandTests code s).find? (fun test => !test.1)).map Prod.snd

end Sys2Proof.Machine
end

