-- ==== Sys2Proof/WellFormed.lean ====
section
/-! DEFINITION. Which commands are a row of the table as written: the checks a sender keeps. The machine gives the
others a meaning too (the register they write decides), so nothing in the machine depends on this file. -/

namespace Sys2Proof

/-- The addresses every write of which has a row of its own in the table: EVT, EVT_MASK, CFG_TBASE to CFG_MODE, RQ_POST,
STAGE_DATA, CQ_POP and CMD (Table 10-1). -/
def ownWriteAddresses : List (BitVec 6) :=
  [0x02#6, 0x03#6, 0x06#6, 0x07#6, 0x08#6, 0x09#6, 0x0A#6, 0x0B#6, 0x0C#6, 0x15#6, 0x16#6, 0x1C#6, 0x20#6]

/-- No column is named twice by a list of decayed cells. -/
def decayWellFormed (decay : Decay) : Bool :=
  decide ((decay.map Prod.fst).Nodup)

/-- A command code that R170 does not assign: outside 1 to 8. -/
def unassignedCode (code : Word) : Bool :=
  decide (code.toNat = 0 ∨ 8 < code.toNat)

/-- A write that REGISTER_WRITE stands for: not to a register whose writes have rows of their own, and not the
soft-reset write of CTRL (R166: a CTRL write with the bit clear does nothing in any state). -/
def plainRegisterWrite (address : BitVec 6) (value : Word) : Bool :=
  !ownWriteAddresses.contains address && !(address == 0x05#6 && value.getLsbD 0)

/-- The operands of a command are those its row means. -/
def Instr.wellFormed : Instr → Bool
  | .hostAccessCompletion decay => decayWellFormed decay
  | .copyBurstCompletion decay => decayWellFormed decay
  | .checkBurstCompletion decay => decayWellFormed decay
  | .softReset value => value.getLsbD 0
  | .registerWrite address value => plainRegisterWrite address value
  | .badCmd code => unassignedCode code
  | .rstinAssert | .rstinRelease _ | .powerUpPauseExpiry | .initCycleCompletion | .grant | .rowRefreshCompletion
  | .rowCloseCompletion | .failedHeadCompletion | .unwindEnd | .patternBurstCompletion | .logWaitAppend
  | .openRowTimerExpiry _ | .sliceTimerExpiry | .externalSensorTimeout | .heldExpiryTaken | .scanVisit | .forcedClear
  | .stretchTimerExpiry _ | .conversionCompletion _ | .rqPost _ | .stageData _ | .cqData | .cqPop _ | .evtWrite _
  | .evtMaskWrite _ | .cfgTbaseWrite _ | .cfgPageWrite _ | .cfgEpochWrite _ | .cfgAgeWrite _ | .cfgWarmWrite _
  | .cfgHotWrite _ | .cfgModeWrite _ | .probeStart | .probeAbort | .retire | .recordRead | .recordWrite | .logRead
  | .logPop | .tempSupply => true

end Sys2Proof
end

