-- ==== Sys2Proof/Certificates/Slice0/Obligations.lean ====
section
/-! DEFINITION. The statements for the provers. Where a command ends with the arbiter's grant in the same event (R25), a
statement gives the state before it and `arbitrate` of that state; what the arbiter does is stated once, for GRANT. That it acts
inside the command of the event is read from the manual (assumptions 6 and 7). -/

open Sys2Proof Sys2Proof.Machine

/-! ### The machine as a whole -/

/-- A step takes the command at the front of the queue and runs it with the rest of the queue. The queue of commands is the
model's own (assumption 20). -/
def Obligations.StepRunsFrontCommand : Prop :=
  ∀ (c : Instr) (rest : List Instr) (s : State),
    step { s with pending := c :: rest } = exec c { s with pending := rest }

/-- With no command waiting, time alone passes (assumption 5, the model's choice): every RUNNING timer's time run rises by
half a microsecond, at most to its length, and nothing else changes; nothing at all while RSTIN# is low. -/
def Obligations.IdleStepOnlyAdvancesTimers : Prop :=
  (∀ length elapsed, elapsed ≤ length →
    Timer.tick (.running length elapsed) = .running length (min length (elapsed + 1))) ∧
  Timer.tick .stopped = .stopped ∧ Timer.tick .expired = .expired ∧
  ∀ s : State, s.pending = [] →
    (running s = false → step s = .next s) ∧
    (running s = true → ∃ t, step s = .next t ∧
      t = { s with
            port := { s.port with devices := t.port.devices, pause := s.port.pause.tick }
            scheduler := { s.scheduler with sliceTimer := s.scheduler.sliceTimer.tick }
            probes := { s.probes with contexts := t.probes.contexts } } ∧
      (∀ d, deviceState t d = { deviceState s d with timer := (deviceState s d).timer.tick }) ∧
      ∀ k, contextOf t k = { contextOf s k with stretchTimer := (contextOf s k).stretchTimer.tick })

/-- Every command is taken in every state (R164, R167): none stops the machine. That an event whose occasion does not hold has
no effect is the model's choice (assumption 4). That no command touches the commands that wait behind it is the model's choice
too: the queue of commands is the model's own (assumption 20), and a release of RSTIN# keeps it (assumption 11). -/
def Obligations.EveryCommandAnswersNext : Prop :=
  ∀ (c : Instr) (s : State), ∃ t, exec c s = .next t ∧ t.pending = s.pending

/-- What no other command changes: every byte of the array is as before but for the completions of host accesses, copy, pattern
and check bursts and the release of RSTIN#; the device count but for the release (R1); the configuration but for its own
writes and the release (R165). The clause on the array is the model's choice. That bytes stay as before at a grant, during a
busy interval and where RSTIN_ASSERT cuts an operation off rests on the data moving whole at the completion (assumption 9). That
a cell's decay shows at the read that meets it is assumption 8; that the array keeps its bytes from the assertion of RSTIN# to
its release, where R18 leaves them undefined, is assumptions 1 and 10. -/
def Obligations.ArrayAndConfigurationFrame : Prop :=
  ∀ (c : Instr) (s t : State), exec c s = .next t → (∀ straps, c ≠ .rstinRelease straps) →
    t.deviceCount = s.deviceCount ∧
    ((∀ decay, c ≠ .hostAccessCompletion decay) → (∀ decay, c ≠ .copyBurstCompletion decay) →
      (∀ decay, c ≠ .checkBurstCompletion decay) → c ≠ .patternBurstCompletion →
      ∀ (r : Row) (column : Column), readByte t r column.val = readByte s r column.val) ∧
    ((∀ v, c ≠ .cfgTbaseWrite v) → (∀ v, c ≠ .cfgPageWrite v) → (∀ v, c ≠ .cfgEpochWrite v) →
      (∀ v, c ≠ .cfgAgeWrite v) → (∀ v, c ≠ .cfgWarmWrite v) → (∀ v, c ≠ .cfgHotWrite v) →
      (∀ v, c ≠ .cfgModeWrite v) → (∀ a v, c ≠ .registerWrite a v) → t.config = s.config)

/-! ### Laws that every step keeps -/

/-- The retention table, the redirect table and the array's contents keep their canonical form. The canonical form is the
model's representation (assumption 18). -/
def Obligations.StepKeepsTablesCanonical : Prop :=
  ∀ s t : State, tablesCanonical s → step s = .next t → tablesCanonical t

/-- HIRQ# follows the flags and the masks (R177), and the configuration stays in its ranges with WARM_ENTER below HOT_ENTER
(R14, R49, R60, R153, R160). -/
def Obligations.StepKeepsInterruptAndConfigurationLaws : Prop :=
  ∀ s t : State, interruptLaw s → configurationLaw s → step s = .next t → interruptLaw t ∧ configurationLaw t

/-- No queue, count or window passes its capacity. -/
def Obligations.StepKeepsCapacities : Prop :=
  ∀ s t : State, capacityLaw s → step s = .next t → capacityLaw t

/-- The law of the due queue (R69): each row at most once, its queued flag set exactly while it is there, and no PROBING or
RETIRED row. The law of places goes with it: by it a restore gives a row neither status. -/
def Obligations.StepKeepsDueQueueLaw : Prop :=
  ∀ s t : State, placeLaw s → dueQueueLaw s → step s = .next t → dueQueueLaw t

/-- The pending slices are the consecutive serials from the cursor's up to the current one (R62). -/
def Obligations.StepKeepsPendingSliceLaw : Prop :=
  ∀ s t : State, pendingLaw s → step s = .next t → pendingLaw t

/-- The port is never left free while a grantable claim waits (R25). That every event ends with the arbiter's choice is read
from the manual (assumptions 6 and 7). -/
def Obligations.StepNeverLeavesPortIdle : Prop :=
  ∀ s t : State, neverIdle s → step s = .next t → neverIdle t

/-- The engines are busy exactly while an operation of theirs is on the port. -/
def Obligations.StepKeepsEnginesLaw : Prop :=
  ∀ s t : State, enginesLaw s → step s = .next t → enginesLaw t

/-- The open-row timers and close claims follow the open rows (R14, R15). -/
def Obligations.StepKeepsOpenRowLaw : Prop :=
  ∀ s t : State, openRowLaw s → step s = .next t → openRowLaw t

/-- Every record stays within the domains of its status (R37, R45, R53, Table 3-2): a PROFILED margin from 2 to 16 that allows the
class, a stamp from 0 to 255 for PROFILED alone, a spare index for RETIRED alone, and no queued flag for PROBING and RETIRED.
The law covers the saved records and pending outcomes of the contexts; the law of places goes with it. -/
def Obligations.StepKeepsRecordLaw : Prop :=
  ∀ s t : State, placeLaw s → recordLaw s → step s = .next t → recordLaw t

/-- The laws of the redirect table, the copy queue, the probe contexts and the log (R100, R105, R118, R147). -/
def Obligations.StepKeepsProbeAndRedirectLaws : Prop :=
  ∀ s t : State, probeLaw s → step s = .next t → probeLaw t

/-- Where a row's data lives and what its record says agree (R41, R42, R43, R53, R102). -/
def Obligations.StepKeepsPlaceLaw : Prop :=
  ∀ s t : State, placeLaw s → step s = .next t → placeLaw t

/-- The law of probes and temperature (R137), with the window's part of it (R157). -/
def Obligations.StepKeepsThermalLaw : Prop :=
  ∀ s t : State, thermalLaw s → step s = .next t → thermalLaw t

/-- FORCED does not outlast its conditions (R73), and a failed head waits for room in the CQ alone (R85). That a follow-on
event is made in the event that brings it about is read from the manual (assumption 6). -/
def Obligations.StepKeepsForcedAndFailedHeadLaws : Prop :=
  ∀ s t : State, step s = .next t →
    (forcedLaw s → forcedLaw t) ∧ (failedHeadLaw s → failedHeadLaw t)

/-- Outside READY the request engine and the log are empty; in POWERUP and INIT every context is IDLE; and the unwind brings every
parked row home (R117, R138, R167, R169). -/
def Obligations.StepKeepsUnreadyLaw : Prop :=
  ∀ s t : State, unreadyLaw s → step s = .next t → unreadyLaw t

/-- The state after reset meets every law above, so that every state a run reaches does. That this state is the part with one
device is the model's choice (assumption 2), as are its values for what the manual leaves open at reset (assumptions 1 and 3). -/
def Obligations.ResetMeetsEveryLaw : Prop :=
  tablesCanonical State.reset ∧ interruptLaw State.reset ∧ configurationLaw State.reset ∧ capacityLaw State.reset ∧
    dueQueueLaw State.reset ∧ pendingLaw State.reset ∧ neverIdle State.reset ∧ enginesLaw State.reset ∧
    openRowLaw State.reset ∧ recordLaw State.reset ∧ placeLaw State.reset ∧ thermalLaw State.reset ∧
    forcedLaw State.reset ∧ failedHeadLaw State.reset ∧ unreadyLaw State.reset

/-! ### RSTIN#, the pause and the initialisation -/

/-- RSTIN_RELEASE from any state gives the power-on values of every block (R1, R18, R34, R55, R76, R96, R114, R117, R161,
R166), and every register reads as Table 10-1's power-on column; the array's bytes are new free values (R18, assumption 1).
RSTIN_ASSERT cuts the operation in progress off, clears every claim, leaves no controller state, and every register reads 0.
The free values of the array after a release stand in the model's form (assumption 1), and what else RSTIN# clears at its
assertion is assumption 10. -/
def Obligations.PowerOnReset : Prop :=
  (∀ (straps : BitVec 2) (s : State), ∃ t, exec (.rstinRelease straps) s = .next t ∧
    t.controller = some .powerup ∧ t.deviceCount = straps.toNat + 1 ∧ t.port.operation = none ∧
    (∀ d, deviceState t d = { openRow := none, timer := .stopped, closeClaim := false }) ∧
    t.port.pause = .running 600 0 ∧ t.port.initCycle = 0 ∧ t.port.hostGrants = 0 ∧
    (∀ r, recordOf t r = { status := if 1022 ≤ r.number.val then .reserved else .unprofiled, cls := 0, margin := 0,
                           stamp := none, queued := false, spare := none }) ∧
    t.scheduler = { sliceTimer := .stopped, serial := 65535, pass := 0, epoch := 0, tbase := 64, pendingSlices := 0,
                    cursor := none, due := [], forced := false, refreshing := false } ∧
    t.requests = { kindField := 0, deviceField := 0, rowField := 0, columnField := 0, lengthField := 0, tagField := 0,
                   fillField := 0, staging := [], requests := [], access := none, completions := [], cursor := 0 } ∧
    t.redirects = [] ∧ t.copy.queue = [] ∧ t.copy.engine = .idle ∧ t.copy.retire = none ∧
    (∀ k, { contextOf t k with lfsr := 0 } =
      { state := .idle, target := { device := 0, number := 0 }, mode := .search, pattern := .solid0, seed := 0,
        userPattern := none, trials := 1, step := 1, trial := 1, parkIndex := 0, burstsDone := 0, mismatch := 0,
        firstFailing := none, lastPassed := 0, failingStep := none, failingMismatch := 0, prior := none,
        stretchTimer := .stopped, abortReason := none, outcome := none, lfsr := 0 }) ∧
    t.probes.log = [] ∧ t.probes.waiting = [] ∧
    t.supervisor = { conversion := .idle, window := [], thermal := .hot, stale := 0, lastReading := none } ∧
    t.host.interrupt = false ∧
    (∀ address, readRegister t address = powerOnWord straps address) ∧
    ∀ r column, readByte t r column = Config.undefinedByte (s.powerCycle + 1) (byteAddress r column)) ∧
  ∀ s : State, running s = true → ∃ t, exec .rstinAssert s = .next t ∧ t.controller = none ∧ t.port.operation = none ∧
    (∀ d, (deviceState t d).closeClaim = false) ∧ chooseClaim t = none ∧ t.copy.engine = .idle ∧
    t.scheduler.refreshing = false ∧ t.requests.access = none ∧ t.supervisor.conversion = .idle ∧
    t.port.pause = .stopped ∧ ∀ address, readRegister t address = 0

/-- POWER_UP_PAUSE_EXPIRY enters INIT and the port takes INIT CYCLE 0 (R16, R17). Each INIT_CYCLE_COMPLETION closes its device
and the next cycle, on device n div 8 and row n mod 8, goes to the port at once; after the last, 8 × device count, the
controller is READY with INIT_DONE raised and the slice timer running for one sixteenth of T_base (R17, R57, R166). -/
def Obligations.PauseAndInitialisationSequence : Prop :=
  (∀ s : State, s.controller = some .powerup → s.port.operation = none → 0 < s.deviceCount →
    (recordOf s { device := 0, number := 0 }).queued = false →
    exec .powerUpPauseExpiry s = .next { s with
      controller := some .init
      port := { s.port with
        operation := some (.initCycle { device := 0, number := 0 })
        devices := s.port.devices.set 0 { s.port.devices.get 0 with timer := .stopped, closeClaim := false }
        pause := .stopped
        initCycle := 0 } }) ∧
  ∀ (s : State) (row : Row), s.controller = some .init → s.port.operation = some (.initCycle row) →
    s.deviceCount ≤ 4 →
    let closed := { s with
      port := { s.port with
        operation := none
        devices := s.port.devices.set row.device { s.port.devices.get row.device with openRow := none }
        initCycle := s.port.initCycle + 1 } }
    (s.port.initCycle + 1 < 8 * s.deviceCount →
      exec .initCycleCompletion s = .next (arbitrate closed) ∧ (arbitrate closed).controller = some .init ∧
        ∃ d n, d.val = (s.port.initCycle + 1) / 8 ∧ n.val = (s.port.initCycle + 1) % 8 ∧
          (arbitrate closed).port.operation = some (.initCycle { device := d, number := n })) ∧
    (8 * s.deviceCount ≤ s.port.initCycle + 1 →
      exec .initCycleCompletion s = .next (arbitrate (withEvents 0x001#10 { closed with
        controller := some .ready
        scheduler := { s.scheduler with sliceTimer := .running (s.scheduler.tbase * 125) 0 } })))

/-! ### The arbiter -/

/-- Claims, descriptors and grants. The redirect lookup serves a row at home, at its reserved row or not at all (R87), and the head
of the RQ is in one of five conditions (R86). A claim waits exactly while its claimant's condition holds in a controller state
in which it can arise, and none while its own operation is on the port (R15, R17, R20 to R24, R33); the claims are read from the
claimants' state (assumption 12). The descriptor is built from the claimant's state at the grant (R3, R7, R9, R17, R24, R74,
R87, R90, R106). GRANT gives the free port to the chosen claim (R26): the descriptor becomes the operation in progress; the
addressed devices' timers stop and their close claims go, but for a hit; the consecutive-host-grant count moves by R29; and
nothing else changes but what the claimant does at its grant: the refresh engine and the copy engine become busy, the request
engine fills its access record, a context's LFSR register moves on where its pattern is LFSR and stays where it is another (the
model's choice, assumption 13), and due entries leave by the grant or by
credit, which may resume a paused scan and clear FORCED. The paused visit is made again at a later SCAN_VISIT, not in the grant
(read from R63 and R78, assumption 25). -/
def Obligations.GrantGivesPortToChosenClaim : Prop :=
  (∀ (s : State) (home : Row), lookup s home = .home ↔ ∀ p ∈ s.redirects, p.2.home ≠ home) ∧
  (∀ (s : State) (i : ReservedIndex) (e : RedirectEntry), redirectLaw s → redirectAt s i = some e →
    lookup s e.home = if e.state = .parkHeld ∨ e.state = .spareActive then .reserved i else .held) ∧
  (∀ s : State, (s.requests.requests = [] → headCondition s = none) ∧
    ∀ q rest, s.requests.requests = q :: rest →
      headCondition s = some (
        if s.requests.access.any (fun a => !a.discarded) then .inAccess
        else if (requestFailure s.deviceCount q).isSome then .failed
        else if 16 ≤ s.requests.completions.length then .blocked
        else if lookup s q.row = .held then .stalled
        else .claiming)) ∧
  (∀ s : State,
    let serving : Prop := s.controller = some .ready ∨ s.controller = some .resetting
    (∀ d, claimRaised s (.close d) = true ↔ serving ∧ (deviceState s d).closeClaim = true) ∧
    (∀ urgent, claimRaised s (.refresh urgent) = true ↔ serving ∧ s.scheduler.refreshing = false ∧
      ∃ e rest, s.scheduler.due = e :: rest ∧ (urgent = true ↔ e.stamp ≠ s.scheduler.serial)) ∧
    (claimRaised s .request = true ↔ s.controller = some .ready ∧ s.requests.access = none ∧
      headCondition s = some .claiming) ∧
    (claimRaised s .copy = true ↔ serving ∧ s.copy.engine = .idle ∧
      ∃ j rest, s.copy.queue = j :: rest ∧ j.progress < 8) ∧
    (∀ k, claimRaised s (.probe k) = true ↔ s.controller = some .ready ∧
      ((contextOf s k).state = .writing ∨ (contextOf s k).state = .checking) ∧ (contextOf s k).burstsDone < 8 ∧
      ∀ row burst bytes, s.port.operation ≠ some (.patternBurst k row burst bytes) ∧
        s.port.operation ≠ some (.checkBurst k row burst bytes)) ∧
    (claimRaised s .init = true ↔ s.controller = some .init ∧ s.port.initCycle < 8 * s.deviceCount ∧
      ∀ row, s.port.operation ≠ some (.initCycle row))) ∧
  (∀ i : ReservedIndex, (reservedRow i).device.val = i.val / 2 ∧ (reservedRow i).number.val = 1022 + i.val % 2) ∧
  (∀ op : PortOperation,
    op.devices = (match op with
      | .rowRefresh row => [row.device]
      | .rowClose d => [d]
      | .hostAccess target _ _ _ _ _ _ => [target.device]
      | .copyBurst source target _ => [source.device, target.device]
      | .patternBurst _ row _ _ => [row.device]
      | .checkBurst _ row _ _ => [row.device]
      | .initCycle row => [row.device]) ∧
    (op.isHit = true ↔ ∃ target kind column length bytes pageOpen,
      op = .hostAccess target kind column length bytes pageOpen true)) ∧
  (∀ s : State,
    (∀ d, descriptor s (.close d) = some (.rowClose d)) ∧
    (∀ urgent e rest, s.scheduler.due = e :: rest → descriptor s (.refresh urgent) = some (.rowRefresh e.row)) ∧
    (∀ q rest, s.requests.requests = q :: rest →
      let target := match lookup s q.row with
        | .reserved i => reservedRow i
        | .home => q.row
        | .held => q.row
      let bytes := match q.kind with
        | .read => []
        | .write => q.data.getD []
        | .fill => List.replicate q.length (q.fill.getD 0)
      descriptor s .request = some (.hostAccess target q.kind q.column q.length bytes s.config.pageOpen
        (decide ((deviceState s target.device).openRow = some target.number)))) ∧
    (∀ j rest, s.copy.queue = j :: rest → descriptor s .copy = some (match j.kind with
      | .park => .copyBurst j.home (reservedRow j.index) j.progress
      | .retire => .copyBurst j.home (reservedRow j.index) j.progress
      | .restore => .copyBurst (reservedRow j.index) j.home j.progress)) ∧
    (∀ k, ((contextOf s k).state = .writing → descriptor s (.probe k) =
        some (.patternBurst k (contextOf s k).target (contextOf s k).burstsDone (burstBytes (contextOf s k)))) ∧
      ((contextOf s k).state = .checking → descriptor s (.probe k) =
        some (.checkBurst k (contextOf s k).target (contextOf s k).burstsDone (burstBytes (contextOf s k))))) ∧
    (s.port.initCycle < 32 → ∃ d n, d.val = s.port.initCycle / 8 ∧ n.val = s.port.initCycle % 8 ∧
      descriptor s .init = some (.initCycle { device := d, number := n }))) ∧
  ∀ (s : State) (claim : Claim), running s = true → s.port.operation = none → chooseClaim s = some claim →
    ∃ op t, descriptor s claim = some op ∧ exec .grant s = .next t ∧ t.port.operation = some op ∧
      (t.port.hostGrants = match claim with
        | .request => if maintenanceWaiting s then s.port.hostGrants + 1 else 0
        | .copy => 0
        | .probe _ => 0
        | .close _ => s.port.hostGrants
        | .refresh _ => s.port.hostGrants
        | .init => s.port.hostGrants) ∧
      (maintenanceWaiting s = true ↔ claimRaised s .copy = true ∨ ∃ k, claimRaised s (.probe k) = true) ∧
      (∀ d, deviceState t d =
        if d ∈ op.devices ∧ op.isHit = false then { deviceState s d with timer := .stopped, closeClaim := false }
        else deviceState s d) ∧
      (t.scheduler.refreshing = (s.scheduler.refreshing || op.isRefresh)) ∧
      (t.copy.engine = if claim = .copy then .copying false else s.copy.engine) ∧
      (claim ≠ .request → t.requests = s.requests) ∧
      (claim = .request → ∃ q rest, s.requests.requests = q :: rest ∧
        t.requests = { s.requests with
          access := some { target := (targetOf s q.row).1, redirected := (targetOf s q.row).2, discarded := false } }) ∧
      (∀ home, targetOf s home = match lookup s home with
        | .reserved i => (reservedRow i, true)
        | .home => (home, false)
        | .held => (home, false)) ∧
      (∀ k, { contextOf t k with lfsr := 0 } = { contextOf s k with lfsr := 0 } ∧
        (claim ≠ .probe k → contextOf t k = contextOf s k)) ∧
      (∀ k, claim = .probe k → contextOf t k =
        if (contextOf s k).pattern = .lfsr
          then { contextOf s k with lfsr := lfsrSteps 256 (burstRegister (contextOf s k)) } else contextOf s k) ∧
      (∀ r, recordOf t r = { recordOf s r with queued := (recordOf t r).queued }) ∧
      t.scheduler.due.Sublist s.scheduler.due ∧
      (t.scheduler.cursor = s.scheduler.cursor ∨
        t.scheduler.cursor = s.scheduler.cursor.map (fun c => { c with paused := false })) ∧
      (t.scheduler.forced = s.scheduler.forced ∨ t.scheduler.forced = false) ∧
      t = { s with
            port := { s.port with
              operation := t.port.operation, devices := t.port.devices, hostGrants := t.port.hostGrants }
            records := t.records
            scheduler := { s.scheduler with
              due := t.scheduler.due, forced := t.scheduler.forced, cursor := t.scheduler.cursor
              refreshing := t.scheduler.refreshing }
            requests := t.requests
            copy := { s.copy with engine := t.copy.engine }
            probes := { s.probes with contexts := t.probes.contexts } }

/-- The arbiter chooses the first claim in the order of Table 2-2 that waits, FORCED skipping positions 3 to 5 (R27, R30,
R35). -/
def Obligations.ArbiterChoosesFirstInOrder : Prop :=
  ∀ (s : State) (claim : Claim), chooseClaim s = some claim ↔
    claimRaised s claim = true ∧ claim.grantable s = true ∧
      ∀ other, claimRaised s other = true → other.grantable s = true → claim.rank s ≤ other.rank s

/-- At a grant the due entries of the rows the operation activates leave the due queue, the others keeping their order, and their
queued flags are cleared, no others (R31). At such a departure a scan paused on a full queue resumes once the queue holds fewer
than 512 entries (R67, R70), and FORCED clears where no urgent entry and no pending slice is left (R73); without a departure
neither changes. The rows activated are those of the descriptor: of a ROW REFRESH, a HOST ACCESS that is a miss, a COPY BURST its
two, of a pattern or check burst and of an INIT CYCLE. The paused visit is made again at a later SCAN_VISIT, so that a departure
appends nothing (read from R63 and R78, assumption 25). -/
def Obligations.GrantCreditsActivatedRows : Prop :=
  (∀ op : PortOperation, op.activates = match op with
    | .rowRefresh row => [row]
    | .rowClose _ => []
    | .hostAccess target _ _ _ _ _ hit => if hit then [] else [target]
    | .copyBurst source target _ => [source, target]
    | .patternBurst _ row _ _ => [row]
    | .checkBurst _ row _ _ => [row]
    | .initCycle row => [row]) ∧
  ∀ (s t : State) (claim : Claim) (op : PortOperation), dueQueueLaw s → running s = true → s.port.operation = none →
    chooseClaim s = some claim → descriptor s claim = some op → exec .grant s = .next t →
    let departs : Bool := s.scheduler.due.any (fun e => op.activates.contains e.row)
    t.scheduler.due = s.scheduler.due.filter (fun e => !op.activates.contains e.row) ∧
      (∀ r, (recordOf t r).queued = ((recordOf s r).queued && !op.activates.contains r)) ∧
      (t.scheduler.cursor = if departs = true ∧ t.scheduler.due.length < 512
        then s.scheduler.cursor.map (fun c => { c with paused := false }) else s.scheduler.cursor) ∧
      (t.scheduler.forced = true ↔ s.scheduler.forced = true ∧
        ¬ (departs = true ∧ s.scheduler.pendingSlices = 0 ∧ ∀ e ∈ t.scheduler.due, e.stamp = s.scheduler.serial))

/-- ROW_REFRESH_COMPLETION and ROW_CLOSE_COMPLETION free the port and leave the device CLOSED; the refresh engine is IDLE after a
refresh (R5, R6, R74). -/
def Obligations.RowRefreshAndRowCloseCompletions : Prop :=
  ∀ s : State, running s = true →
    (∀ row, s.port.operation = some (.rowRefresh row) →
      exec .rowRefreshCompletion s = .next (arbitrate { s with
        port := { s.port with
          operation := none
          devices := s.port.devices.set row.device { s.port.devices.get row.device with openRow := none } }
        scheduler := { s.scheduler with refreshing := false } })) ∧
    ∀ d, s.port.operation = some (.rowClose d) →
      exec .rowCloseCompletion s = .next (arbitrate { s with
        port := { s.port with
          operation := none
          devices := s.port.devices.set d { s.port.devices.get d with openRow := none } } })

/-- OPEN_ROW_TIMER_EXPIRY raises the device's close claim, which a free port takes at once unless a lower-numbered device's claim
waits (R14, R15). -/
def Obligations.OpenRowTimerExpiryRaisesCloseClaim : Prop :=
  ∀ (s : State) (d : DeviceId) (length elapsed : Nat), running s = true →
    (deviceState s d).timer = .running length elapsed →
    let raised := { s with
      port := { s.port with
        devices := s.port.devices.set d { s.port.devices.get d with timer := .expired, closeClaim := true } } }
    exec (.openRowTimerExpiry d) s = .next (arbitrate raised) ∧
      (s.port.operation = none → (s.controller = some .ready ∨ s.controller = some .resetting) →
        (∀ e : DeviceId, e < d → (deviceState s e).closeClaim = false) →
        (arbitrate raised).port.operation = some (.rowClose d))

/-! ### Host requests -/

/-- HOST_ACCESS_COMPLETION of a live access ends the head of the RQ (R92): its completion joins the CQ with status OK, the
redirected flag of the access record and, for a READ, the bytes of the target row; CQ_READY is raised; the failed heads that
follow complete behind it, each with its tag, status and length, as far as the CQ has room (R84, R85); and the data cursor is 0
if the CQ was empty (R94). A discarded access completes none and changes no queue (R97). The failed heads complete in the same
event (assumption 6). -/
def Obligations.HostAccessCompletionEndsHead : Prop :=
  ∀ (s : State) (decay : Decay) (target : Row) (kind : RequestKind) (column length : Nat) (bytes : List Byte)
    (pageOpen hit : Bool) (a : AccessRecord), running s = true →
    s.port.operation = some (.hostAccess target kind column length bytes pageOpen hit) → s.requests.access = some a →
    (a.discarded = true → ∃ u, exec (.hostAccessCompletion decay) s = .next (arbitrate u) ∧
      u.requests = { s.requests with access := none } ∧ u.host = s.host) ∧
    (a.discarded = false → ∀ q rest, s.requests.requests = q :: rest →
      let failed := failedCompletions s.deviceCount (15 - s.requests.completions.length) rest
      ∃ u, exec (.hostAccessCompletion decay) s = .next (arbitrate u) ∧
        u.requests = { s.requests with
          access := none
          requests := rest.drop failed.length
          completions := s.requests.completions ++
            { tag := q.tag, status := .ok, redirected := a.redirected, length := q.length,
              data := if q.kind = .read then some (readBytes u target column length) else none } :: failed
          cursor := if s.requests.completions = [] then 0 else s.requests.cursor } ∧
        u.host = (withEvents 0x004#10 s).host)

/-- HOST_ACCESS_COMPLETION on the array (R8, R11, R13, R91): a WRITE or FILL stores its bytes in the target row from its
first column on; a READ leaves the row as it reads, decayed cells included; every other byte stays. The device ends OPEN
with the target row under the OPEN policy and CLOSED under the CLOSED policy, other devices keeping their state, and a miss
under the OPEN policy starts the open-row timer at the limit in force (R14). Decayed cells are operands of the event
(assumption 8), and the data moves at the completion (assumption 9). -/
def Obligations.HostAccessCompletionOnArray : Prop :=
  ∀ (s : State) (decay : Decay) (target : Row) (kind : RequestKind) (column length : Nat) (bytes : List Byte)
    (pageOpen hit : Bool), running s = true → decayWellFormed decay = true →
    s.port.operation = some (.hostAccess target kind column length bytes pageOpen hit) →
    ∃ u, exec (.hostAccessCompletion decay) s = .next (arbitrate u) ∧
      (∀ (r : Row) (c : Column), readByte u r c.val =
        if r = target then
          if kind = .read then ((decay.find? (fun cell => cell.1 == c)).map Prod.snd).getD (readByte s r c.val)
          else if column ≤ c.val ∧ c.val < column + bytes.length then bytes.getD (c.val - column) 0
          else readByte s r c.val
        else readByte s r c.val) ∧
      u.port.operation = none ∧
      (∀ d, d ≠ target.device → deviceState u d = deviceState s d) ∧
      (deviceState u target.device).openRow = (if pageOpen then some target.number else none) ∧
      (hit = false → pageOpen = true →
        (deviceState u target.device).timer = .running (s.config.rowLimit * 2) 0 ∧
          (deviceState u target.device).closeClaim = false) ∧
      (hit = true → pageOpen = true →
        (deviceState u target.device).timer = (deviceState s target.device).timer ∧
          (deviceState u target.device).closeClaim = (deviceState s target.device).closeClaim) ∧
      (hit = true → pageOpen = false →
        (deviceState u target.device).timer = .stopped ∧ (deviceState u target.device).closeClaim = false)

/-- FAILED_HEAD_COMPLETION: a head that fails a check, in the order NODEV, RESERVED, BOUNDS (R84), completes without the port
where the CQ has room, with its tag, its status, its length as posted and no data, and so do the failing heads behind it as far
as the CQ has room; CQ_READY is raised (R85), and the data cursor is 0 if the CQ was empty (R94). The failed heads that follow
complete in the same event (assumption 6). -/
def Obligations.FailedHeadCompletesWithoutPort : Prop :=
  ∀ (s : State) (q : Request) (rest : List Request), running s = true →
    liveAccess s = false → s.requests.requests = q :: rest → s.requests.completions.length < 16 →
    (requestFailure s.deviceCount q).isSome = true →
    let failed := failedCompletions s.deviceCount (16 - s.requests.completions.length) (q :: rest)
    failed ≠ [] ∧
      exec .failedHeadCompletion s = .next (arbitrate (withEvents 0x004#10 { s with
        requests := { s.requests with
          requests := (q :: rest).drop failed.length
          completions := s.requests.completions ++ failed
          cursor := if s.requests.completions = [] then 0 else s.requests.cursor } }))

/-- The entry an accepted post builds from the request field registers and the staged bytes (R81, R83); as the new head of the RQ
it claims the port or, failing a check, completes at once (R84, R85), the data cursor being 0 if the CQ was empty (R94), or waits
in FAILED while the CQ holds 16 completions (R85, R86). -/
def Obligations.PostAccepted : Prop :=
  ∀ (s : State) (value : Word) (kind : RequestKind), isReady s = true → s.requests.requests.length < 16 →
    RequestKind.ofField s.requests.kindField = some kind →
    let n := s.requests.lengthField.toNat
    let taken := if kind = .write ∧ 1 ≤ n ∧ n ≤ 32 then n else 0
    taken ≤ s.requests.staging.length →
    let entry : Request :=
      { tag := s.requests.tagField, kind := kind
        row := { device := Fin.ofNat 4 s.requests.deviceField.toNat, number := Fin.ofNat 1024 s.requests.rowField.toNat }
        column := s.requests.columnField.toNat, length := n
        fill := if kind = .fill then some s.requests.fillField else none
        data := if kind = .write ∧ 1 ≤ n ∧ n ≤ 32 then some (s.requests.staging.take n) else none }
    let posted := { s with
      requests := { s.requests with
        staging := s.requests.staging.drop taken
        requests := s.requests.requests ++ [entry] } }
    (s.requests.requests ≠ [] → exec (.rqPost value) s = .next posted) ∧
    (s.requests.requests = [] → requestFailure s.deviceCount entry = none →
      exec (.rqPost value) s = .next (arbitrate posted)) ∧
    (s.requests.requests = [] → liveAccess s = false → s.requests.completions.length < 16 →
      ∀ status, requestFailure s.deviceCount entry = some status →
      exec (.rqPost value) s = .next (arbitrate (withEvents 0x004#10 { s with
        requests := { s.requests with
          staging := s.requests.staging.drop taken
          completions := s.requests.completions ++
            [{ tag := entry.tag, status := status, redirected := false, length := n, data := none }]
          cursor := if s.requests.completions = [] then 0 else s.requests.cursor } }))) ∧
    (s.requests.requests = [] → 16 ≤ s.requests.completions.length →
      (requestFailure s.deviceCount entry).isSome = true →
      exec (.rqPost value) s = .next (arbitrate posted) ∧ (liveAccess s = false → headCondition posted = some .failed))

/-- A post is rejected by the first of its four tests that fails, which HOST_ERR records; nothing else changes (R82). -/
def Obligations.PostRejected : Prop :=
  ∀ (s : State) (value : Word), running s = true →
    (isReady s = false → exec (.rqPost value) s = .next (withHostError .notReady s)) ∧
    (isReady s = true → 16 ≤ s.requests.requests.length →
      exec (.rqPost value) s = .next (withHostError .rqFull s)) ∧
    (isReady s = true → s.requests.requests.length < 16 → 3 ≤ s.requests.kindField.toNat →
      exec (.rqPost value) s = .next (withHostError .badKind s)) ∧
    (isReady s = true → s.requests.requests.length < 16 → s.requests.kindField.toNat = 1 →
      1 ≤ s.requests.lengthField.toNat → s.requests.lengthField.toNat ≤ 32 →
      s.requests.staging.length < s.requests.lengthField.toNat →
      exec (.rqPost value) s = .next (withHostError .stageShort s))

/-- STAGE_DATA (R80): in READY with room for two bytes the low byte joins the FIFO and the high byte after it; with 63 or 64
bytes held the word is discarded with STAGE_OVERFLOW, outside READY with NOT_READY. A read of the register returns 0. -/
def Obligations.StageDataWrite : Prop :=
  ∀ (s : State) (value : Word), running s = true →
    (isReady s = true → s.requests.staging.length ≤ 62 →
      exec (.stageData value) s = .next { s with
        requests := { s.requests with
          staging := s.requests.staging ++ [BitVec.ofNat 8 (value.toNat % 256), BitVec.ofNat 8 (value.toNat / 256)] } }) ∧
    (isReady s = true → 63 ≤ s.requests.staging.length →
      exec (.stageData value) s = .next (withHostError .stageOverflow s)) ∧
    (isReady s = false → exec (.stageData value) s = .next (withHostError .notReady s)) ∧
    readRegister s 0x16 = 0

/-- CQ_DATA and CQ_POP. A read puts the byte at the cursor in the low half and the next one in the high half, 0 for a byte
beyond the head's data, and advances the cursor by 2 unless it stands at the end (R94). A pop removes the head and returns
the cursor to 0; failed heads that waited for room complete (R85, R95); with the CQ empty it records CQ_EMPTY_POP. The
failed heads complete in the same event (assumption 6); the register reads 0 while RSTIN# is low (assumption 17). -/
def Obligations.CompletionDataReadAndPop : Prop :=
  (∀ s : State, running s = true →
    let data := (s.requests.completions.head?.bind Completion.data).getD []
    let i := s.requests.cursor
    ∃ t, exec .cqData s = .next t ∧
      t.host.readData.toNat = (data.getD i 0).toNat + 256 * (data.getD (i + 1) 0).toNat ∧
      t = { s with
            host := { s.host with readData := t.host.readData }
            requests := { s.requests with cursor := if i < data.length then i + 2 else i } }) ∧
  (∀ s : State, running s = false →
    exec .cqData s = .next { s with host := { s.host with readData := 0 } }) ∧
  ∀ (s : State) (value : Word), running s = true →
    (s.requests.completions = [] → exec (.cqPop value) s = .next (withHostError .cqEmptyPop s)) ∧
    ∀ c rest, s.requests.completions = c :: rest →
      let failed := if liveAccess s then [] else
        failedCompletions s.deviceCount (16 - rest.length) s.requests.requests
      let popped := { s with requests := { s.requests with
        requests := s.requests.requests.drop failed.length, completions := rest ++ failed, cursor := 0 } }
      exec (.cqPop value) s = .next (arbitrate (if failed = [] then popped else withEvents 0x004#10 popped))

/-! ### Refresh scheduling -/

/-- SLICE_TIMER_EXPIRY with fewer than 15 slices pending is taken (R57, R58, R59, R72): the serial and the pending-slice
count advance by one and the timer runs anew for one sixteenth of the T_base in force; at a slice index of 0 the pass number
advances, the epoch counter where E divides it, the T_base written comes into force, and the supervisor starts a conversion
where none runs, or counts towards the external-sensor timeout (R154, R159); an overrun sets FORCED and raises OVERRUN; and the
cursor leaves idle for device 0 and the slice's first row where no slice was pending. At a count of 15 the timer is HELD and
nothing else changes. Expiries come as commands (assumption 5), and the timeout is made in the pass start (assumption 6). -/
def Obligations.SliceTimerExpiry : Prop :=
  ∀ (s : State) (length elapsed : Nat), running s = true → s.scheduler.sliceTimer = .running length elapsed →
    (s.scheduler.pendingSlices = 15 →
      exec .sliceTimerExpiry s = .next { s with scheduler := { s.scheduler with sliceTimer := .expired } }) ∧
    (s.scheduler.pendingSlices < 15 → ∃ u, exec .sliceTimerExpiry s = .next (arbitrate u) ∧ expiryTaken s u)

/-- The steps that end a wait of the scheduler or of the controller. HELD_EXPIRY_TAKEN: a HELD timer with fewer than 15
slices pending takes its expiry with all that a slice expiry brings, a pass start's effects and the overrun test among it, and
runs anew (R58, R59, R61). FORCED_CLEAR: FORCED clears with no urgent entry and no slice pending, and stays otherwise (R73).
UNWIND_END: in RESETTING with no PARK entry and no copy job the controller enters READY and RESET_DONE is raised (R169). Each is
also made in the event that brings it about (assumption 6). -/
def Obligations.HeldExpiryForcedClearAndUnwindEnd : Prop :=
  (∀ s : State, running s = true → s.scheduler.sliceTimer = .expired → s.scheduler.pendingSlices < 15 →
    ∃ u, exec .heldExpiryTaken s = .next (arbitrate u) ∧ expiryTaken s u) ∧
  (∀ s : State, running s = true →
    (s.scheduler.pendingSlices = 0 → (∀ e ∈ s.scheduler.due, e.stamp = s.scheduler.serial) →
      exec .forcedClear s = .next (arbitrate { s with scheduler := { s.scheduler with forced := false } })) ∧
    ((0 < s.scheduler.pendingSlices ∨ ∃ e ∈ s.scheduler.due, e.stamp ≠ s.scheduler.serial) →
      exec .forcedClear s = .next (arbitrate s))) ∧
  ∀ s : State, s.controller = some .resetting → s.copy.queue = [] →
    (∀ p ∈ s.redirects, p.2.state = .spareCopying ∨ p.2.state = .spareActive) →
    exec .unwindEnd s = .next (arbitrate (withEvents 0x002#10 { s with controller := some .ready }))

/-- SCAN_VISIT (R62 to R68). The record's age is tested first and a PROFILED record at or past L becomes UNPROFILED with
AGE_DEMOTE raised; the due decision follows the record as it then stands; a due row without an entry joins the tail with the
cursor's serial, or pauses the scan on a full queue; and the cursor moves to the next row, to the next device, or the scan
ends. At the end of a scan FORCED clears where no urgent entry and no pending slice is left (R73), and a HELD expiry is taken in
the same event with all that it brings (R61, assumption 6); without one nothing else changes. A visit that paused the scan is
made again by the first SCAN_VISIT after the departure that resumes it (read from R63 and R78, assumption 25). -/
def Obligations.ScanVisitDecidesAndMovesOn : Prop :=
  ∀ (s : State) (c : ScanCursor), running s = true → s.scheduler.cursor = some c → c.paused = false →
    let row : Row := { device := c.device, number := c.row }
    let found := recordOf s row
    let age := (s.scheduler.epoch + 256 - found.stamp.getD 0 % 256) % 256
    let demoted : Bool := decide (found.status = .profiled ∧ s.config.ageLimit ≤ age)
    let visited : Record :=
      if demoted then { found with status := .unprofiled, cls := 0, margin := 0, stamp := none, spare := none } else found
    let effective := min visited.cls (match s.supervisor.thermal with | .normal => 3 | .warm => 1 | .hot => 0)
    let due : Bool := match visited.status with
      | .reserved => true
      | .unprofiled => true
      | .suspect => true
      | .profiled => decide (c.pass % 2 ^ effective = c.row.val / 16 % 2 ^ effective)
      | .probing => false
      | .retired => false
    let full : Bool := decide (512 ≤ s.scheduler.due.length)
    let append : Bool := due && !visited.queued && !full
    let stays : Bool := due && !visited.queued && full
    let ends : Bool := !stays && decide (1024 ≤ c.row.val + 16 ∧ s.deviceCount ≤ c.device.val + 1)
    let flagged := (if demoted then withEvents 0x200#10 s else s).host
    ∃ u, exec .scanVisit s = .next (arbitrate u) ∧
      recordOf u row = { visited with queued := visited.queued || append } ∧
      (∀ r, r ≠ row → recordOf u r = recordOf s r) ∧
      u.scheduler.due = (if append then s.scheduler.due ++ [{ row := row, stamp := c.serial }] else s.scheduler.due) ∧
      (demoted = true → u.host.events.getLsbD 9 = true) ∧
      (demoted = false → u.host.events.getLsbD 9 = s.host.events.getLsbD 9) ∧
      (ends = false ∨ s.scheduler.sliceTimer ≠ .expired → u = { s with
        records := u.records, host := flagged
        scheduler := { s.scheduler with
          due := u.scheduler.due, cursor := u.scheduler.cursor, pendingSlices := u.scheduler.pendingSlices
          forced := u.scheduler.forced } }) ∧
      (ends = false → u.scheduler.forced = s.scheduler.forced) ∧
      (ends = true → s.scheduler.sliceTimer ≠ .expired → (u.scheduler.forced = true ↔ s.scheduler.forced = true ∧
        ¬ (s.scheduler.pendingSlices ≤ 1 ∧ ∀ e ∈ u.scheduler.due, e.stamp = s.scheduler.serial))) ∧
      (stays = true → u.scheduler.cursor = some { c with paused := true } ∧
        u.scheduler.pendingSlices = s.scheduler.pendingSlices) ∧
      (stays = false → c.row.val + 16 < 1024 → ∃ next, next.val = c.row.val + 16 ∧
        u.scheduler.cursor = some { c with row := next } ∧ u.scheduler.pendingSlices = s.scheduler.pendingSlices) ∧
      (stays = false → 1024 ≤ c.row.val + 16 → c.device.val + 1 < s.deviceCount → c.device.val < 3 →
        ∃ d next, d.val = c.device.val + 1 ∧ next.val = c.serial % 16 ∧
          u.scheduler.cursor = some { c with device := d, row := next } ∧
          u.scheduler.pendingSlices = s.scheduler.pendingSlices) ∧
      (stays = false → 1024 ≤ c.row.val + 16 → s.deviceCount ≤ c.device.val + 1 →
        (s.scheduler.sliceTimer ≠ .expired →
          u.scheduler.pendingSlices = s.scheduler.pendingSlices - 1 ∧ u.scheduler.serial = s.scheduler.serial ∧
          (s.scheduler.pendingSlices ≤ 1 → u.scheduler.cursor = none) ∧
          (1 < s.scheduler.pendingSlices → ∃ next, next.val = (c.serial + 1) % 65536 % 16 ∧
            u.scheduler.cursor = some
              { serial := (c.serial + 1) % 65536
                pass := if (c.serial + 1) % 65536 % 16 = 0 then (c.pass + 1) % 65536 else c.pass
                device := 0, row := next, paused := false })) ∧
        (s.scheduler.sliceTimer = .expired → s.scheduler.pendingSlices = 15 →
          u.scheduler.pendingSlices = 15 ∧ u.scheduler.serial = (s.scheduler.serial + 1) % 65536 ∧
          u.scheduler.sliceTimer = .running (u.scheduler.tbase * 125) 0 ∧ u.scheduler.forced = true ∧
          u.host.events.getLsbD 8 = true ∧
          ∃ next, next.val = (c.serial + 1) % 65536 % 16 ∧ expiryTaken { s with
            records := u.records, host := flagged
            scheduler := { s.scheduler with
              due := u.scheduler.due, pendingSlices := 14
              cursor := some
                { serial := (c.serial + 1) % 65536
                  pass := if (c.serial + 1) % 65536 % 16 = 0 then (c.pass + 1) % 65536 else c.pass
                  device := 0, row := next, paused := false } } } u))

/-! ### The copy engine -/

/-- COPY_BURST_COMPLETION before a job's last burst (R9, R106, R111): the 32 columns of the source row stand in the target
row and in the copy buffer, every other byte as before, decayed cells of the source included; both devices are CLOSED; the
engine is IDLE; the head job's progress rises by one, unless its job was abandoned: then no job's progress changes. Decayed
cells are operands of the event (assumption 8), and abandonment is marked on the engine (assumption 14). -/
def Obligations.CopyBurstMovesColumns : Prop :=
  ∀ (s : State) (decay : Decay) (source target : Row) (burst : Nat) (abandoned : Bool), running s = true → burst < 8 →
    source ≠ target → decayWellFormed decay = true →
    s.port.operation = some (.copyBurst source target burst) → s.copy.engine = .copying abandoned →
    (abandoned = true ∨ ∃ j rest, s.copy.queue = j :: rest ∧ j.progress < 7) →
    let held := fun (r : Row) (c : Column) =>
      if r = source then ((decay.find? (fun cell => cell.1 == c)).map Prod.snd).getD (readByte s r c.val)
      else readByte s r c.val
    ∃ u, exec (.copyBurstCompletion decay) s = .next (arbitrate u) ∧
      (∀ (r : Row) (c : Column), readByte u r c.val =
        if r = target ∧ 32 * burst ≤ c.val ∧ c.val < 32 * burst + 32 then held source c else held r c) ∧
      u.copy.buffer = readBytes u source (32 * burst) 32 ∧ u.copy.engine = .idle ∧ u.copy.retire = s.copy.retire ∧
      (abandoned = true → u.copy.queue = s.copy.queue) ∧
      (abandoned = false → ∀ j rest, s.copy.queue = j :: rest →
        u.copy.queue = { j with progress := j.progress + 1 } :: rest) ∧
      (∀ d, deviceState u d =
        if d = source.device ∨ d = target.device then { deviceState s d with openRow := none } else deviceState s d) ∧
      u = { s with array := u.array, copy := u.copy, port := { s.port with operation := none, devices := u.port.devices } }

/-- COPY_BURST_COMPLETION of a PARK job's eighth burst (R107, R123): the entry becomes PARK/HELD; the record is saved into
the context, with its age for a PROFILED one (R51), and becomes PROBING; its due entry leaves the queue; the context enters
WRITING. The burst itself does what every copy burst does: the 32 columns moved, every other byte kept, the copy buffer,
both devices CLOSED, the port free (R9, R13). Decayed cells are operands of the event (assumption 8), abandonment is marked on
the engine (assumption 14), and a scan that the departure resumes makes its paused visit later (assumption 25). -/
def Obligations.ParkJobCompletion : Prop :=
  ∀ (s : State) (decay : Decay) (source target : Row) (burst : Nat) (j : CopyJob) (rest : List CopyJob) (k : ContextId)
    (e : RedirectEntry), running s = true → dueQueueLaw s →
    s.port.operation = some (.copyBurst source target burst) → s.copy.engine = .copying false →
    s.copy.queue = j :: rest → j.kind = .park → j.owner = .context k → j.progress = 7 →
    (contextOf s k).state = .parking → (contextOf s k).target = j.home → redirectAt s j.index = some e →
    let c := contextOf s k
    let old := recordOf s j.home
    ∃ u, exec (.copyBurstCompletion decay) s = .next (arbitrate u) ∧
      (burst < 8 → source ≠ target → decayWellFormed decay = true → copyBurstEffect decay source target burst s u) ∧
      u.copy.queue = rest ∧ u.copy.engine = .idle ∧
      redirectAt u j.index = some { e with state := .parkHeld, owner := .context k } ∧
      (∀ i, i ≠ j.index → redirectAt u i = redirectAt s i) ∧
      recordOf u j.home = { status := .probing, cls := 0, margin := 0, stamp := none, queued := false, spare := none } ∧
      (∀ r, r ≠ j.home → recordOf u r = recordOf s r) ∧
      u.scheduler.due = s.scheduler.due.filter (fun d => decide (d.row ≠ j.home)) ∧
      contextOf u k = { c with
        state := .writing
        prior := some { status := old.status, cls := old.cls, margin := old.margin
                        age := if old.status = .profiled
                          then old.stamp.map (fun stamp => (s.scheduler.epoch + 256 - stamp % 256) % 256) else none }
        burstsDone := 0, mismatch := 0, firstFailing := none } ∧
      ∀ m, m ≠ k → contextOf u m = contextOf s m

/-- COPY_BURST_COMPLETION of a RESTORE job's eighth burst (R108, R133, R144, R51, R169): the entry is removed; a finished
probe's record takes its outcome, a PROFILED one the current epoch as stamp; an aborted probe's record returns to its saved
one, a PROFILED one with the stamp that gives it the saved age; the context ends in IDLE with its log entry appended where
the log has room, waits in DONE where it has none, and logs nothing after a soft reset. In RESETTING the completion after
which neither a PARK entry nor a copy job is left returns the controller to READY with RESET_DONE. The burst itself does
what every copy burst does: the 32 columns moved, every other byte kept, the copy buffer, both devices CLOSED, the port free
(R9, R13). The entry's fields are those of R148. Decayed cells are operands of the event (assumption 8), and abandonment is
marked on the engine (assumption 14). -/
def Obligations.RestoreJobCompletion : Prop :=
  ∀ (s : State) (decay : Decay) (source target : Row) (burst : Nat) (j : CopyJob) (rest : List CopyJob) (k : ContextId),
    running s = true → s.port.operation = some (.copyBurst source target burst) → s.copy.engine = .copying false →
    s.copy.queue = j :: rest → j.kind = .restore → j.owner = .context k → j.progress = 7 →
    (contextOf s k).state = .restoring → (contextOf s k).target = j.home →
    let c := contextOf s k
    let epoch := s.scheduler.epoch
    let ended : Bool := decide (s.controller = some .resetting ∧ rest = [] ∧
      ∀ p ∈ s.redirects, p.1 = j.index.val ∨ p.2.state.isPark = false)
    let ending : PendingOutcome :=
      if c.abortReason = none then c.outcome.getD { name := .aborted, record := none } else { name := .aborted, record := none }
    let logged : Bool := decide (c.abortReason ≠ some .reset ∧ s.probes.log.length < 8)
    ∃ u, exec (.copyBurstCompletion decay) s = .next (arbitrate u) ∧
      (burst < 8 → source ≠ target → decayWellFormed decay = true → copyBurstEffect decay source target burst s u) ∧
      u.copy.queue = rest ∧ u.copy.engine = .idle ∧ redirectAt u j.index = none ∧
      (∀ i, i ≠ j.index → redirectAt u i = redirectAt s i) ∧
      (∀ r, r ≠ j.home → recordOf u r = recordOf s r) ∧ u.scheduler = s.scheduler ∧
      (c.abortReason = none → ∀ o, c.outcome.bind PendingOutcome.record = some o →
        recordOf u j.home = { recordOf s j.home with
          status := o.status, cls := o.cls, margin := o.margin
          stamp := if o.status = .profiled then some epoch else none, spare := none }) ∧
      (c.abortReason ≠ none → ∀ p, c.prior = some p →
        recordOf u j.home = { recordOf s j.home with
          status := p.status, cls := p.cls, margin := p.margin
          stamp := if p.status = .profiled then p.age.map (fun age => (epoch + 256 - age % 256) % 256) else none
          spare := none }) ∧
      (c.abortReason = some .reset → (contextOf u k).state = .idle ∧ (contextOf u k).outcome = none ∧
        u.probes.log = s.probes.log ∧ u.probes.waiting = s.probes.waiting) ∧
      (logged = true → contextOf u k = { c with state := .idle, outcome := some ending } ∧
        u.probes.waiting = s.probes.waiting ∧ u.probes.log = s.probes.log ++ [loggedEntry k c ending]) ∧
      (c.abortReason ≠ some .reset → 8 ≤ s.probes.log.length →
        contextOf u k = { c with state := .done, outcome := some ending } ∧
        u.probes.log = s.probes.log ∧ u.probes.waiting = s.probes.waiting ++ [k]) ∧
      (∀ m, m ≠ k → contextOf u m = contextOf s m) ∧
      u.controller = (if ended then some .ready else s.controller) ∧
      (logged = false → ended = false → u.host = s.host) ∧
      (logged = true ∨ ended = true → u.host =
        (withEvents ((if logged then 0x010#10 else 0#10) ||| (if ended then 0x002#10 else 0#10)) s).host)

/-- COPY_BURST_COMPLETION of a RETIRE job's eighth burst (R109): the entry becomes SPARE/ACTIVE, the record RETIRED with the
job's index as its spare, its due entry leaves the queue, the retire outstanding is cleared and RETIRE_DONE is raised. The
burst itself does what every copy burst does: the 32 columns moved, every other byte kept, the copy buffer, both devices
CLOSED, the port free (R9, R13). Decayed cells are operands of the event (assumption 8), abandonment is marked on the engine
(assumption 14), and a scan that the departure resumes makes its paused visit later (assumption 25). -/
def Obligations.RetireJobCompletion : Prop :=
  ∀ (s : State) (decay : Decay) (source target : Row) (burst : Nat) (j : CopyJob) (rest : List CopyJob)
    (e : RedirectEntry), running s = true → dueQueueLaw s →
    s.port.operation = some (.copyBurst source target burst) → s.copy.engine = .copying false →
    s.copy.queue = j :: rest → j.kind = .retire → j.progress = 7 → redirectAt s j.index = some e →
    ∃ u, exec (.copyBurstCompletion decay) s = .next (arbitrate u) ∧
      (burst < 8 → source ≠ target → decayWellFormed decay = true → copyBurstEffect decay source target burst s u) ∧
      u.copy.queue = rest ∧ u.copy.engine = .idle ∧ u.copy.retire = none ∧
      redirectAt u j.index = some { e with state := .spareActive, owner := .command } ∧
      (∀ i, i ≠ j.index → redirectAt u i = redirectAt s i) ∧
      recordOf u j.home =
        { status := .retired, cls := 0, margin := 0, stamp := none, queued := false, spare := some j.index } ∧
      (∀ r, r ≠ j.home → recordOf u r = recordOf s r) ∧
      u.scheduler.due = s.scheduler.due.filter (fun d => decide (d.row ≠ j.home)) ∧
      u.host = (withEvents 0x020#10 s).host ∧ u.probes = s.probes

/-! ### Probes -/

/-- PATTERN_BURST_COMPLETION stores the 32 pattern bytes in the burst's columns and nothing elsewhere (R10); bursts done rises, and
after the eighth the context enters STRETCH with its timer running for step × T_base (R125, R126); a context no longer in
WRITING keeps its fields (R136). STRETCH_TIMER_EXPIRY moves the context to CHECKING with bursts done 0 and its timer STOPPED
(R126). -/
def Obligations.PatternBurstAndStretchExpiry : Prop :=
  (∀ (s : State) (k : ContextId) (row : Row) (burst : Nat) (bytes : List Byte), running s = true → burst < 8 →
    bytes.length = 32 → s.port.operation = some (.patternBurst k row burst bytes) →
    let c := contextOf s k
    ∃ u, exec .patternBurstCompletion s = .next (arbitrate u) ∧
      (∀ (r : Row) (column : Column), readByte u r column.val =
        if r = row ∧ 32 * burst ≤ column.val ∧ column.val < 32 * burst + 32 then bytes.getD (column.val - 32 * burst) 0
        else readByte s r column.val) ∧
      (contextOf u k = if c.state ≠ .writing then c
        else if c.burstsDone < 7 then { c with burstsDone := c.burstsDone + 1 }
        else { c with state := .stretch, burstsDone := 0
                      stretchTimer := .running (c.step * s.scheduler.tbase * 2000) 0 }) ∧
      (∀ m, m ≠ k → contextOf u m = contextOf s m) ∧
      (∀ d, deviceState u d = if d = row.device then { deviceState s d with openRow := none } else deviceState s d) ∧
      u = { s with array := u.array, port := { s.port with operation := none, devices := u.port.devices }
                   probes := { s.probes with contexts := u.probes.contexts } }) ∧
  ∀ (s : State) (k : ContextId) (length elapsed : Nat), running s = true → (contextOf s k).state = .stretch →
    (contextOf s k).stretchTimer = .running length elapsed →
    exec (.stretchTimerExpiry k) s = .next (arbitrate { s with
      probes := { s.probes with
        contexts := s.probes.contexts.set k
          { s.probes.contexts.get k with state := .checking, stretchTimer := .stopped, burstsDone := 0 } } })

/-- CHECK_BURST_COMPLETION (R11, R127, R128, R136): the row holds what the first burst of the stage finds, decayed cells
included, and no later burst finds another decay; nothing is written, and the device is CLOSED; a context in CHECKING adds
the number of differing columns to its mismatch count, which stops at 255, keeps the lowest differing column it has met, and
counts the burst; before the eighth burst nothing else changes, and a context no longer in CHECKING keeps its fields.
Decayed cells are operands of the event (assumption 8). -/
def Obligations.CheckBurstCountsDifferingColumns : Prop :=
  ∀ (s : State) (decay : Decay) (k : ContextId) (row : Row) (burst : Nat) (expected : List Byte), running s = true →
    burst < 8 → expected.length = 32 → decayWellFormed decay = true →
    s.port.operation = some (.checkBurst k row burst expected) →
    let c := contextOf s k
    let differs := fun (t : State) (i : Nat) => decide (readByte t row (32 * burst + i) ≠ expected.getD i 0)
    (c.state ≠ .checking ∨ c.burstsDone < 7) →
    ∃ u, exec (.checkBurstCompletion decay) s = .next (arbitrate u) ∧
      checkBurstEffect decay row burst s u ∧
      (contextOf u k = if c.state ≠ .checking then c
        else { c with
          mismatch := min 255 (c.mismatch + (List.range 32).countP (differs u))
          firstFailing := c.firstFailing.or (((List.range 32).find? (differs u)).map (fun i => 32 * burst + i))
          burstsDone := c.burstsDone + 1 }) ∧
      (∀ m, m ≠ k → contextOf u m = contextOf s m) ∧
      u = { s with array := u.array, port := { s.port with operation := none, devices := u.port.devices }
                   probes := { s.probes with contexts := u.probes.contexts } }

/-- The end of a trial at the eighth check burst (R129 to R132, R145): a passed trial leads to the next trial, in SEARCH
below step 16 to twice the step, else to the finish; a failed one to the finish at once. A finish whose outcome is RETIRED
converts the park into a spare; every other one appends a RESTORE job, its entry becoming PARK/RESTORING. A converted
context logs its entry (R148) where the log has room, LOG_READY being raised (R149), and waits where it has none (R147). No other
event flag is raised. The burst itself does what every
check burst does (R11, R13, R127). Decayed cells are operands of the event (assumption 8), and a scan that the converted row's
departure resumes makes its paused visit later (assumption 25). -/
def Obligations.TrialEndAtEighthCheckBurst : Prop :=
  ∀ (s : State) (decay : Decay) (k : ContextId) (row : Row) (burst : Nat) (expected : List Byte) (e : RedirectEntry),
    running s = true → expected.length = 32 → s.port.operation = some (.checkBurst k row burst expected) →
    (contextOf s k).state = .checking → (contextOf s k).burstsDone = 7 →
    redirectAt s (contextOf s k).parkIndex = some e → e.home = (contextOf s k).target →
    ∃ u : State, exec (.checkBurstCompletion decay) s = .next (arbitrate u) ∧
      (decayWellFormed decay = true → checkBurstEffect decay row burst s u) ∧
      let differs := fun (i : Nat) => decide (readByte u row (32 * burst + i) ≠ expected.getD i 0)
      let c : ProbeContext := { contextOf s k with
        mismatch := min 255 ((contextOf s k).mismatch + (List.range 32).countP differs)
        firstFailing := (contextOf s k).firstFailing.or (((List.range 32).find? differs).map (fun i => 32 * burst + i))
        burstsDone := 8 }
      (∀ m, m ≠ k → contextOf u m = contextOf s m) ∧
      (c.mismatch = 0 → c.trial < c.trials →
        contextOf u k = { c with state := .writing, trial := c.trial + 1, burstsDone := 0, firstFailing := none }) ∧
      (c.mismatch = 0 → c.trials ≤ c.trial → c.mode = .search → c.step < 16 →
        contextOf u k = { c with state := .writing, lastPassed := c.step, step := c.step * 2, trial := 1, burstsDone := 0
                                 firstFailing := none }) ∧
      ∀ finished : ProbeContext,
        (c.mismatch ≠ 0 ∧ finished = { c with failingStep := some c.step, failingMismatch := c.mismatch }) ∨
        (c.mismatch = 0 ∧ c.trials ≤ c.trial ∧ (c.mode = .check ∨ 16 ≤ c.step) ∧
          finished = { c with lastPassed := c.step }) →
        let outcome := deriveOutcome s.config.autoRetire finished
        (outcome.name ≠ .retired →
          contextOf u k = { finished with state := .restoring, outcome := some outcome } ∧
          redirectAt u c.parkIndex = some { e with state := .parkRestoring, owner := .context k } ∧
          u.copy.queue = s.copy.queue ++
            [{ kind := .restore, home := c.target, index := c.parkIndex, owner := .context k, progress := 0 }] ∧
          u.records = s.records ∧ u.scheduler = s.scheduler ∧ u.host = s.host) ∧
        (outcome.name = .retired →
          contextOf u k = { finished with
            state := if s.probes.log.length < 8 then .idle else .done, outcome := some outcome } ∧
          u.probes.log = s.probes.log ++ (if s.probes.log.length < 8 then [loggedEntry k finished outcome] else []) ∧
          u.probes.waiting = s.probes.waiting ++ (if s.probes.log.length < 8 then [] else [k]) ∧
          redirectAt u c.parkIndex = some { e with state := .spareActive, owner := .command } ∧
          u.copy.queue = s.copy.queue ∧ u.copy.retire = s.copy.retire ∧
          recordOf u c.target =
            { status := .retired, cls := 0, margin := 0, stamp := none, queued := false, spare := some c.parkIndex } ∧
          (∀ r, r ≠ c.target → recordOf u r = recordOf s r) ∧
          u.host = if s.probes.log.length < 8 then (withEvents 0x010#10 s).host else s.host)

/-- The class allowed by a margin (R44): the largest class k from 0 to 3 with 2^(k+1) not above it, none below 2; it does not
decrease as the margin grows. -/
def Obligations.AllowedClassIsLargestGuarded : Prop :=
  (∀ m, allowedClass m = none ↔ m < 2) ∧
  (∀ m k, allowedClass m = some k ↔ k ≤ 3 ∧ 2 ^ (k + 1) ≤ m ∧ ∀ j, j ≤ 3 → 2 ^ (j + 1) ≤ m → j ≤ k) ∧
  ∀ m n k, m ≤ n → allowedClass m = some k → ∃ l, allowedClass n = some l ∧ k ≤ l

/-- The outcomes of finished probes (R141, R142, R143). -/
def Obligations.ProbeOutcomesFollowTables : Prop :=
  ∀ (auto : Bool) (c : ProbeContext),
    let named := fun (name : OutcomeName) (status : RecordStatus) (cls margin : Nat) (renew : Bool) =>
      deriveOutcome auto c =
        { name := name, record := some { status := status, cls := cls, margin := margin, renewStamp := renew } }
    let weak := (auto = true → named .retired .retired 0 0 false) ∧ (auto = false → named .suspect .suspect 0 0 false)
    let m := c.lastPassed
    (c.mode = .search →
      (∀ k, allowedClass m = some k → named .profiled .profiled k m true) ∧ (m < 2 → weak)) ∧
    (c.mode = .check → ∀ s, c.failingStep = some s →
      (s ≤ 2 → weak) ∧ (2 < s → named .demoted .unprofiled 0 0 false)) ∧
    (c.mode = .check → c.failingStep = none → ∀ p, c.prior = some p →
      (p.status = .profiled → 2 ^ (p.cls + 1) ≤ m → named .revalidated .profiled p.cls (max p.margin m) true) ∧
      (p.status = .profiled → m < 2 ^ (p.cls + 1) → ∀ k, allowedClass m = some k → named .demoted .profiled k m true) ∧
      (p.status = .profiled → m = 1 → named .demoted .unprofiled 0 0 false) ∧
      (p.status = .unprofiled ∨ p.status = .suspect → ∀ k, allowedClass m = some k →
        named .profiled .profiled k m true) ∧
      (p.status = .unprofiled → m = 1 → named .revalidated .unprofiled 0 0 false) ∧
      (p.status = .suspect → m = 1 → named .revalidated .suspect 0 1 false))

/-- The pattern generator (R121, R122): the bytes of a burst are those of its 32 columns, CHECKER alternating with row and
column. The LFSR register is loaded at a stage's first burst from the seed and the row, never with zero, carries on through
the others, and stays nonzero, so that the pattern never stalls. That the register is loaded and moved on at the grants is
read from the manual (assumption 13). -/
def Obligations.PatternBytesOfBurst : Prop :=
  (∀ (c : ProbeContext) (i : Nat), i < 32 → c.pattern ≠ .lfsr →
    let column := 32 * c.burstsDone + i
    (burstBytes c)[i]? = some (match c.pattern with
      | .solid0 => 0x00#8
      | .solid1 => 0xFF#8
      | .checker => if (c.target.number.val + column) % 2 = 0 then 0x55#8 else 0xAA#8
      | .user => (c.userPattern.getD []).getD (column % 8) 0#8
      | .lfsr => 0x00#8)) ∧
  (∀ (c : ProbeContext) (i j : Nat), i < 32 → j < 8 → c.pattern = .lfsr →
    ((burstBytes c)[i]?.map (fun b => b.getLsbD j)) = some (lfsrOut (lfsrSteps (8 * i + j) (burstRegister c)))) ∧
  (∀ c : ProbeContext, burstRegister c = if c.burstsDone = 0 then lfsrLoad c.seed c.target else c.lfsr) ∧
  (∀ (seed : Word) (r : Row), lfsrLoad seed r ≠ 0 ∧
    let v : Word := seed ^^^ BitVec.ofNat 16 (r.device.val * 1024 + r.number.val)
    ((∀ n, n < 15 → v.getLsbD n = false) → lfsrLoad seed r = 1) ∧
    (¬ (∀ n, n < 15 → v.getLsbD n = false) → ∀ n, n < 15 → (lfsrLoad seed r).getLsbD n = v.getLsbD n)) ∧
  (∀ reg : BitVec 15, reg ≠ 0 → lfsrStep reg ≠ 0) ∧
  ∀ (reg : BitVec 15) (n : Nat), n < 14 → (lfsrStep reg).getLsbD (n + 1) = reg.getLsbD n ∧
    (lfsrStep reg).getLsbD 0 = xor (reg.getLsbD 14) (reg.getLsbD 13)

/-! ### The result log -/

/-- LOG_READ, LOG_POP and LOG_WAIT_APPEND. LOG READ places the head entry in RES0 to RES3, in the layout of Table 10-8, and
keeps the log (R150). LOG POP removes the head entry; where contexts wait, the first of them appends its entry in the same
event, enters IDLE and LOG_READY is raised (R151). A context still owed its entry appends it as soon as the log has room
(R147). Both are refused with NOT_READY outside READY and with EMPTY on an empty log, changing nothing but CMD and
CMD_STATUS. LOG_WAIT_APPEND is done inside the pop where a context waits (R147, assumption 6), and the accepted commands end
with the arbiter's choice (assumption 7), both read from the manual. -/
def Obligations.LogReadPopAndWaitAppend : Prop :=
  (∀ s : State, running s = true → isReady s = false →
    exec .logRead s = .next { s with host := { s.host with command := 6, status := .notReady } } ∧
    exec .logPop s = .next { s with host := { s.host with command := 7, status := .notReady } }) ∧
  (∀ s : State, isReady s = true → s.probes.log = [] →
    exec .logRead s = .next { s with host := { s.host with command := 6, status := .empty } } ∧
    exec .logPop s = .next { s with host := { s.host with command := 7, status := .empty } }) ∧
  (∀ (s : State) (e : LogEntry) (rest : List LogEntry), isReady s = true → s.probes.log = e :: rest →
    let mode : Nat := match e.mode with
      | .search => 0
      | .check => 1
    let outcome : Nat := match e.outcome with
      | .profiled => 0
      | .revalidated => 1
      | .demoted => 2
      | .suspect => 3
      | .retired => 4
      | .aborted => 5
    let newClass : Nat := match e.newClass with
      | some k => 1024 + k * 256
      | none => 0
    let abortReason : Nat := match e.abortReason with
      | some .host => 1
      | some .thermal => 2
      | some .reset => 0
      | none => 0
    let failingStep : Nat := match e.failingStep with
      | some step => 32768 + step * 256
      | none => 0
    exec .logRead s = .next (arbitrate { s with
      host := { s.host with
        command := 6, status := .accepted
        results :=
          { q0 := BitVec.ofNat 16 (e.context.val + mode * 4 + outcome * 16 + newClass + abortReason * 4096)
            q1 := BitVec.ofNat 16 (e.row.device.val * 4096 + e.row.number.val)
            q2 := BitVec.ofNat 16 (e.margin + failingStep + if e.firstFailing.isSome then 16384 else 0)
            q3 := BitVec.ofNat 16 (e.mismatch + e.firstFailing.getD 0 * 256) } } })) ∧
  (∀ (s : State) (e : LogEntry) (rest : List LogEntry), isReady s = true → s.probes.log = e :: rest →
    (s.probes.waiting = [] → exec .logPop s = .next (arbitrate { s with
      host := { s.host with command := 7, status := .accepted }, probes := { s.probes with log := rest } })) ∧
    (∀ k more, s.probes.waiting = k :: more → rest.length < 8 →
      exec .logPop s = .next (arbitrate (withEvents 0x010#10 { s with
        host := { s.host with command := 7, status := .accepted }
        probes := { contexts := s.probes.contexts.set k { s.probes.contexts.get k with state := .idle }
                    log := rest ++ [loggedEntry k (contextOf s k) ((contextOf s k).outcome.getD { name := .aborted, record := none })]
                    waiting := more } })))) ∧
  ∀ (s : State) (k : ContextId) (more : List ContextId), running s = true → s.probes.waiting = k :: more →
    s.probes.log.length < 8 →
    exec .logWaitAppend s = .next (withEvents 0x010#10 { s with
      probes := { contexts := s.probes.contexts.set k { s.probes.contexts.get k with state := .idle }
                  log := s.probes.log ++ [loggedEntry k (contextOf s k) ((contextOf s k).outcome.getD { name := .aborted, record := none })]
                  waiting := more } })

/-! ### Temperature -/

/-- CONVERSION_COMPLETION and TEMP_SUPPLY deliver a reading clamped to −40 to +125 °C (R154, R155): it joins the window, the
oldest leaving a full one, and is the last reading; a full window's mean M, rounded down, moves the thermal state by the
thresholds and the hysteresis (R156, R157); THERMAL_CHANGE is raised at a change and only then, and in HOT no context is
left in PARKING, WRITING, STRETCH or CHECKING (R158). A conversion marked for discard delivers nothing. The entry into HOT
aborts the probes in ascending order with reason THERMAL: their RESTORE jobs, entries and log entries are given (R135 to
R137). The sensor measures whole degrees (assumption 23). -/
def Obligations.ReadingsMoveThermalState : Prop :=
  let delivered := fun (s u : State) (measured : Int) =>
    let reading := max (-40) (min 125 measured)
    let window := (if s.supervisor.window.length < 4 then s.supervisor.window else s.supervisor.window.drop 1) ++ [reading]
    let old := s.supervisor.thermal
    let new := u.supervisor.thermal
    u.supervisor.window = window ∧ u.supervisor.lastReading = some reading ∧
    (window.length < 4 → new = old) ∧
    (4 ≤ window.length → ∀ mean : Int, 4 * mean ≤ window.sum → window.sum < 4 * mean + 4 →
      (new = .hot ↔ (old = .hot ∧ s.config.hotEnter - s.config.hysteresis < mean) ∨
        (old ≠ .hot ∧ s.config.hotEnter ≤ mean)) ∧
      (new = .normal ↔ (old = .normal ∧ mean < s.config.warmEnter ∧ mean < s.config.hotEnter) ∨
        (old = .warm ∧ mean < s.config.hotEnter ∧ mean ≤ s.config.warmEnter - s.config.hysteresis) ∨
        (old = .hot ∧ mean ≤ s.config.hotEnter - s.config.hysteresis ∧
          mean ≤ s.config.warmEnter - s.config.hysteresis))) ∧
    (new ≠ old → u.host.events.getLsbD 6 = true) ∧ (new = old → u.host.events.getLsbD 6 = s.host.events.getLsbD 6) ∧
    (new = old ∨ new ≠ .hot → u.probes = s.probes ∧ u.copy = s.copy ∧ u.redirects = s.redirects) ∧
    (new ≠ old → new = .hot → (∀ k, abortable (contextOf u k).state = false) ∧ (probeLaw s → heatAborted s u)) ∧
    u.records = s.records ∧ u.scheduler = s.scheduler ∧ u.requests = s.requests ∧ u.port = s.port
  (∀ (s : State) (measured : Int), running s = true → s.supervisor.conversion = .converting false →
    ∃ u, exec (.conversionCompletion measured) s = .next (arbitrate u) ∧ u.supervisor.conversion = .idle ∧
      u.supervisor.stale = s.supervisor.stale ∧ delivered s u measured) ∧
  (∀ (s : State) (measured : Int), running s = true → s.supervisor.conversion = .converting true →
    exec (.conversionCompletion measured) s =
      .next { s with supervisor := { s.supervisor with conversion := .idle } }) ∧
  ∀ s : State, isReady s = true → s.config.external = true →
    ∃ u, exec .tempSupply s = .next (arbitrate u) ∧ u.supervisor.stale = 0 ∧ u.host.status = .accepted ∧
      u.supervisor.conversion = s.supervisor.conversion ∧ delivered s u s.host.args.q0.toInt

/-- EXTERNAL_SENSOR_TIMEOUT at a staleness count of 4 in EXTERNAL mode, and the pass start that would bring the count there
(R159): the window is emptied, the count returns to 0, the thermal state is HOT and SENSOR_STALE is raised, THERMAL_CHANGE
only where the state was another; no context stays in PARKING, WRITING, STRETCH or CHECKING after a change. The timeout is
made in the pass start that brings the count to 4 (assumption 6). The entry into HOT aborts the probes in ascending order
with reason THERMAL: their RESTORE jobs, entries and log entries are given (R135 to R137). -/
def Obligations.ExternalSensorTimeout : Prop :=
  (∀ s : State, running s = true → s.config.external = true → 4 ≤ s.supervisor.stale →
    ∃ u, exec .externalSensorTimeout s = .next (arbitrate u) ∧ sensorTimedOut s u) ∧
  ∀ (s : State) (length elapsed : Nat), running s = true → s.config.external = true → s.supervisor.stale = 3 →
    s.scheduler.sliceTimer = .running length elapsed → s.scheduler.pendingSlices < 15 →
    (s.scheduler.serial + 1) % 65536 % 16 = 0 →
    ∃ u, exec .sliceTimerExpiry s = .next (arbitrate u) ∧ sensorTimedOut s u

/-! ### The register window -/

/-- SOFT_RESET in READY (R168): the request engine's queues and staging, the log and its wait order are emptied, an access
on the port is marked discarded, the retire outstanding is given up, every context ends in IDLE or in RESTORING with reason
RESET, its RESTORE job at the tail in ascending context order (R115, R138), a copy burst on the port whose job is given up
is marked for discard (R111), and the command unit, the flags, the masks and HOST_ERR are cleared; where no PARK entry and
no copy job is left the part is READY again with RESET_DONE alone, else it is RESETTING. The scheduler, the records, the
supervisor, the configuration, the port and the array are kept. Outside READY, and with bit 0 clear, the write does nothing
(R166). That the write ends with a grant is read from the manual (assumption 7), and abandonment is marked on the engine
(assumption 14). That the part is READY for the next command where nothing is left to unwind follows R169 against the words of
R98, R139, R152 and R178, by the model's choice (assumption 26). -/
def Obligations.SoftResetWrite : Prop :=
  ∀ (s : State) (value : Word),
    (isReady s = true → value.getLsbD 0 = true → probeLaw s →
      ∃ u, exec (.softReset value) s = .next (arbitrate u) ∧
        u.requests = { s.requests with
          staging := [], requests := [], completions := [], cursor := 0
          access := s.requests.access.map (fun a => { a with discarded := true }) } ∧
        resetAborted s u ∧
        (∀ k, ((contextOf s k).state = .idle ∨ (contextOf s k).state = .parking ∨ (contextOf s k).state = .done →
            (contextOf u k).state = .idle) ∧
          ((contextOf s k).state ≠ .idle → (contextOf s k).state ≠ .parking → (contextOf s k).state ≠ .done →
            (contextOf u k).state = .restoring ∧ (contextOf u k).abortReason = some .reset ∧
            (contextOf u k).stretchTimer.isRunning = false)) ∧
        (∀ j ∈ u.copy.queue, j.kind = .restore) ∧
        (∀ p ∈ u.redirects, p.2.state = .parkRestoring ∨ p.2.state = .spareActive) ∧
        (∀ i e, redirectAt s i = some e → e.state = .spareActive → redirectAt u i = some e) ∧
        u.host.mask = 0 ∧ u.host.error = .none ∧ u.host.command = 0 ∧ u.host.status = .none ∧
        u.host.args = { q0 := 0, q1 := 0, q2 := 0, q3 := 0 } ∧
        u.host.patternArgs = { q0 := 0, q1 := 0, q2 := 0, q3 := 0 } ∧
        u.host.results = { q0 := 0, q1 := 0, q2 := 0, q3 := 0 } ∧ u.host.interrupt = false ∧
        (u.copy.queue = [] → u.controller = some .ready ∧ u.host.events = 0x002#10) ∧
        (u.copy.queue ≠ [] → u.controller = some .resetting ∧ u.host.events = 0#10) ∧
        u.scheduler = s.scheduler ∧ u.records = s.records ∧ u.supervisor = s.supervisor ∧ u.config = s.config ∧
        u.port = s.port ∧ u.array = s.array ∧ u.deviceCount = s.deviceCount) ∧
    (isReady s = false ∨ value.getLsbD 0 = false → exec (.softReset value) s = .next s)

/-- EVT_WRITE clears each flag written with 1 and leaves the others; EVT_MASK_WRITE sets the masks; HIRQ# follows in the same event
and nothing else changes (R176, R177). -/
def Obligations.EventAndMaskWrites : Prop :=
  ∀ (s : State) (value : Word), running s = true →
    (∃ t, exec (.evtWrite value) s = .next t ∧
      (∀ i, i < 10 → t.host.events.getLsbD i = (s.host.events.getLsbD i && !value.getLsbD i)) ∧
      (t.host.interrupt = true ↔ ∃ i, i < 10 ∧ t.host.events.getLsbD i = true ∧ t.host.mask.getLsbD i = true) ∧
      t = { s with host := { s.host with events := t.host.events, interrupt := t.host.interrupt } }) ∧
    ∃ t, exec (.evtMaskWrite value) s = .next t ∧
      (∀ i, i < 10 → t.host.mask.getLsbD i = value.getLsbD i) ∧
      (t.host.interrupt = true ↔ ∃ i, i < 10 ∧ t.host.events.getLsbD i = true ∧ t.host.mask.getLsbD i = true) ∧
      t = { s with host := { s.host with mask := t.host.mask, interrupt := t.host.interrupt } }

/-- The seven configuration writes, taken in every controller state (R14, R49, R60, R153, R160, R165): a value in range is
held from the write on and nothing else changes; another changes nothing and records BAD_CONFIG. CFG_MODE with a new sensor
mode also empties the window, returns the staleness count to 0, marks a conversion for discard and leaves the part HOT
(R153). The entry into HOT aborts the probes in ascending order with reason THERMAL: their RESTORE jobs, entries and log
entries are given (R135 to R137). -/
def Obligations.ConfigurationWrites : Prop :=
  ∀ (s : State) (v : Word), running s = true →
    (exec (.cfgTbaseWrite v) s = .next
      (if 16 ≤ v.toNat ∧ v.toNat ≤ 256 then { s with config := { s.config with tbaseWritten := v.toNat } }
      else withHostError .badConfig s)) ∧
    (exec (.cfgPageWrite v) s = .next
      (if 8 ≤ v.toNat % 128 ∧ v.toNat % 128 ≤ 120 then
        { s with config := { s.config with rowLimit := v.toNat % 128, pageOpen := v.getLsbD 15 } }
      else withHostError .badConfig s)) ∧
    (exec (.cfgEpochWrite v) s = .next
      (if 1 ≤ v.toNat ∧ v.toNat ≤ 4096 then { s with config := { s.config with epochDivider := v.toNat } }
      else withHostError .badConfig s)) ∧
    (exec (.cfgAgeWrite v) s = .next
      (if 1 ≤ v.toNat ∧ v.toNat ≤ 200 then { s with config := { s.config with ageLimit := v.toNat } }
      else withHostError .badConfig s)) ∧
    (exec (.cfgWarmWrite v) s = .next
      (if -40 ≤ v.toInt ∧ v.toInt ≤ 125 ∧ v.toInt < s.config.hotEnter then
        { s with config := { s.config with warmEnter := v.toInt } }
      else withHostError .badConfig s)) ∧
    (exec (.cfgHotWrite v) s = .next
      (if -40 ≤ v.toInt ∧ v.toInt ≤ 125 ∧ s.config.warmEnter < v.toInt then
        { s with config := { s.config with hotEnter := v.toInt } }
      else withHostError .badConfig s)) ∧
    (v.toNat % 16 = 0 → exec (.cfgModeWrite v) s = .next (withHostError .badConfig s)) ∧
    (v.toNat % 16 ≠ 0 → v.getLsbD 8 = s.config.external →
      exec (.cfgModeWrite v) s = .next { s with
        config := { s.config with hysteresis := v.toNat % 16, autoRetire := v.getLsbD 12 } }) ∧
    (v.toNat % 16 ≠ 0 → v.getLsbD 8 ≠ s.config.external →
      ∃ u, exec (.cfgModeWrite v) s = .next (arbitrate u) ∧
        u.config = { s.config with
          hysteresis := v.toNat % 16, autoRetire := v.getLsbD 12, external := v.getLsbD 8 } ∧
        u.supervisor = { conversion := match s.supervisor.conversion with
                           | .idle => .idle
                           | .converting _ => .converting true
                         window := [], thermal := .hot, stale := 0, lastReading := s.supervisor.lastReading } ∧
        (u.host.events.getLsbD 6 = (s.host.events.getLsbD 6 || decide (s.supervisor.thermal ≠ .hot))) ∧
        (s.supervisor.thermal ≠ .hot → (∀ k, abortable (contextOf u k).state = false) ∧ (probeLaw s → heatAborted s u)))

/-- REGISTER_WRITE (R79, R164, R170): a request field or argument register holds the assigned bits of the word written and
reads them back, every other register of the window reading as before; a write to a read-only register, to an unassigned
address, or to CTRL with bit 0 clear changes nothing. What every register of the window reads as, in any state: ID, STATE,
the flags and masks, HOST_ERR, the configuration, the counts, the head of the CQ, CMD and CMD_STATUS, the results, the
temperatures, the request field and argument registers and the scheduler's observation registers (R75, R79, R94, R156, Tables 10-1, 10-6 and 10-8a), 0 for a write-only or
unassigned address and while RSTIN# is low (R164). Reads are a function of the state (assumption 17). -/
def Obligations.PlainRegisterWrites : Prop :=
  (∀ (s : State) (address : BitVec 6) (value : Word), running s = true → plainRegisterWrite address value = true →
    let mask : Word := match address.toNat with
      | 0x10 => 0x0037
      | 0x11 => 0x03FF
      | 0x12 => 0x00FF
      | 0x13 => 0x01FF
      | 0x14 => 0xFFFF
      | _ => 0xFFFF
    (((0x10 ≤ address.toNat ∧ address.toNat ≤ 0x14) ∨ (0x22 ≤ address.toNat ∧ address.toNat ≤ 0x29)) →
      ∃ t, exec (.registerWrite address value) s = .next t ∧ readRegister t address = value &&& mask ∧
        (∀ other, other ≠ address → readRegister t other = readRegister s other) ∧
        t = { s with
              host := { s.host with args := t.host.args, patternArgs := t.host.patternArgs }
              requests := { s.requests with
                kindField := t.requests.kindField, deviceField := t.requests.deviceField
                rowField := t.requests.rowField, columnField := t.requests.columnField
                lengthField := t.requests.lengthField, tagField := t.requests.tagField
                fillField := t.requests.fillField } }) ∧
    (¬ ((0x10 ≤ address.toNat ∧ address.toNat ≤ 0x14) ∨ (0x22 ≤ address.toNat ∧ address.toNat ≤ 0x29)) →
      exec (.registerWrite address value) s = .next s)) ∧
  (∀ (s : State) (address : BitVec 6), running s = false → readRegister s address = 0) ∧
  ∀ s : State, running s = true →
    let flag : Bool → Nat := fun b => if b then 1 else 0
    readRegister s 0x00 = 0xD410 ∧
    (∀ state, s.controller = some state → readRegister s 0x01 = BitVec.ofNat 16
      ((match state with | .powerup => 0 | .init => 1 | .ready => 2 | .resetting => 3) + 16 * flag s.scheduler.forced +
        256 * (match s.supervisor.thermal with | .normal => 0 | .warm => 1 | .hot => 2) + 4096 * s.deviceCount)) ∧
    readRegister s 0x02 = s.host.events.setWidth 16 ∧ readRegister s 0x03 = s.host.mask.setWidth 16 ∧
    readRegister s 0x04 = (match s.host.error with
      | .none => 0 | .notReady => 1 | .rqFull => 2 | .badKind => 3 | .stageShort => 4 | .stageOverflow => 5
      | .cqEmptyPop => 6 | .badConfig => 7) ∧
    readRegister s 0x06 = BitVec.ofNat 16 s.config.tbaseWritten ∧
    readRegister s 0x07 = BitVec.ofNat 16 (s.config.rowLimit + 32768 * flag s.config.pageOpen) ∧
    readRegister s 0x08 = BitVec.ofNat 16 s.config.epochDivider ∧
    readRegister s 0x09 = BitVec.ofNat 16 s.config.ageLimit ∧
    readRegister s 0x0A = BitVec.ofInt 16 s.config.warmEnter ∧ readRegister s 0x0B = BitVec.ofInt 16 s.config.hotEnter ∧
    readRegister s 0x0C =
      BitVec.ofNat 16 (s.config.hysteresis + 256 * flag s.config.external + 4096 * flag s.config.autoRetire) ∧
    readRegister s 0x10 = BitVec.ofNat 16 (s.requests.kindField.toNat + 16 * s.requests.deviceField.toNat) ∧
    readRegister s 0x11 = BitVec.ofNat 16 s.requests.rowField.toNat ∧
    readRegister s 0x12 = BitVec.ofNat 16 s.requests.columnField.toNat ∧
    readRegister s 0x13 = BitVec.ofNat 16 s.requests.lengthField.toNat ∧
    readRegister s 0x14 = BitVec.ofNat 16 (s.requests.tagField.toNat + 256 * s.requests.fillField.toNat) ∧
    readRegister s 0x17 = BitVec.ofNat 16 s.requests.staging.length ∧
    readRegister s 0x18 = BitVec.ofNat 16 s.requests.requests.length ∧
    (s.requests.completions = [] →
      readRegister s 0x19 = 0 ∧ readRegister s 0x1A = 0 ∧ readRegister s 0x1B = 0) ∧
    (∀ c rest, s.requests.completions = c :: rest → readRegister s 0x19 = c.tag.setWidth 16 ∧
      readRegister s 0x1A = BitVec.ofNat 16 (c.length +
        4096 * (match c.status with | .ok => 0 | .bounds => 1 | .nodev => 2 | .reserved => 3) +
        16384 * flag c.redirected + 32768) ∧
      readRegister s 0x1B = BitVec.ofNat 16 (((c.data.getD []).getD s.requests.cursor 0).toNat +
        256 * ((c.data.getD []).getD (s.requests.cursor + 1) 0).toNat)) ∧
    readRegister s 0x20 = s.host.command ∧
    readRegister s 0x21 = (match s.host.status with
      | .none => 0 | .accepted => 1 | .notReady => 2 | .badCmd => 3 | .badArg => 4 | .rowBusy => 5 | .thermal => 6
      | .noContext => 7 | .noReserve => 8 | .busy => 9 | .state => 10 | .empty => 11 | .mode => 12 | .reserved => 13
      | .inconsistent => 14) ∧
    readRegister s 0x22 = s.host.args.q0 ∧ readRegister s 0x23 = s.host.args.q1 ∧
    readRegister s 0x24 = s.host.args.q2 ∧ readRegister s 0x25 = s.host.args.q3 ∧
    readRegister s 0x26 = s.host.patternArgs.q0 ∧ readRegister s 0x27 = s.host.patternArgs.q1 ∧
    readRegister s 0x28 = s.host.patternArgs.q2 ∧ readRegister s 0x29 = s.host.patternArgs.q3 ∧
    readRegister s 0x2A = s.host.results.q0 ∧ readRegister s 0x2B = s.host.results.q1 ∧
    readRegister s 0x2C = s.host.results.q2 ∧ readRegister s 0x2D = s.host.results.q3 ∧
    readRegister s 0x30 = BitVec.ofInt 16 (s.supervisor.lastReading.getD (-128)) ∧
    (s.supervisor.window.length < 4 → readRegister s 0x31 = BitVec.ofInt 16 (-128)) ∧
    (4 ≤ s.supervisor.window.length → ∀ mean : Int, 4 * mean ≤ s.supervisor.window.sum →
      s.supervisor.window.sum < 4 * mean + 4 → readRegister s 0x31 = BitVec.ofInt 16 mean) ∧
    readRegister s 0x32 = BitVec.ofNat 16 s.scheduler.due.length ∧
    readRegister s 0x33 = BitVec.ofNat 16 s.scheduler.pass ∧ readRegister s 0x34 = BitVec.ofNat 16 s.scheduler.epoch ∧
    readRegister s 0x35 = BitVec.ofNat 16 s.scheduler.pendingSlices ∧
    ∀ address : BitVec 6, address ∈ ([0x05, 0x0D, 0x0E, 0x0F, 0x15, 0x16, 0x1C, 0x1D, 0x1E, 0x1F, 0x2E, 0x2F] :
      List (BitVec 6)) ∨ 0x36 ≤ address.toNat → readRegister s address = 0

/-! ### The command unit -/

/-- The refusals of every command come in the order of its tests, and a refused command changes nothing but CMD and CMD_STATUS;
a command whose tests all pass reports ACCEPTED (R112, R119, R134, R150, R151, R155, R170, R172, R173). BAD_CMD, an
unassigned code, is refused always: with NOT_READY outside READY, with BAD_CMD in it. -/
def Obligations.CommandRefusalsInOrder : Prop :=
  ∀ (code : Word) (s : State), running s = true →
    (∀ refusal, firstRefusal code s = some refusal →
      exec (commandOfCode code) s = .next { s with host := { s.host with command := code, status := refusal } }) ∧
    (firstRefusal code s = none → ∃ t, exec (commandOfCode code) s = .next t ∧
      t.host.command = code ∧ t.host.status = .accepted ∧ t.host.error = s.host.error) ∧
    (code.toNat = 0 ∨ 8 < code.toNat →
      exec (.badCmd code) s = .next { s with
        host := { s.host with command := code, status := if isReady s then .badCmd else .notReady } })

/-- The allocation of a reserved row (R101): the lowest-indexed free one on another device than the home row's, or, where none is
free there, the lowest-indexed free one; none exactly where no reserved row is free. -/
def Obligations.AllocationPrefersOtherDevice : Prop :=
  ∀ (s : State) (d : DeviceId),
    (allocateIndex s d = none ↔ ∀ i, indexFree s i = false) ∧
    ∀ i, allocateIndex s d = some i → indexFree s i = true ∧ i.val < 2 * s.deviceCount ∧
      ((i.val / 2 ≠ d.val ∧ ∀ j, j < i → indexFree s j = true → j.val / 2 = d.val) ∨
        (i.val / 2 = d.val ∧ ∀ j, indexFree s j = true → j.val / 2 = d.val ∧ i ≤ j))

/-- PROBE_START accepted (R120): the lowest IDLE context enters PARKING with the arguments in its fields and the rest cleared, a
PARK/COPYING entry and a PARK job of progress 0 serve it at the reserved row allocated, and RES0 and RES1 give the context and
the index. The records are not changed. -/
def Obligations.ProbeStartAccepted : Prop :=
  ∀ (s : State) (k : ContextId) (i : ReservedIndex) (mode : ProbeMode) (pattern : Pattern),
    firstRefusal 1 s = none → (contextOf s k).state = .idle → (∀ m, m < k → (contextOf s m).state ≠ .idle) →
    let row := rowOperand s.host.args.q3
    let w := s.host.args.q0
    allocateIndex s row.device = some i → ProbeMode.ofCode (bits w 4 2) = some mode →
    Pattern.ofCode (bits w 0 3) = some pattern →
    exec .probeStart s = .next (arbitrate { s with
      host := { s.host with
        command := 1, status := .accepted
        results := { q0 := BitVec.ofNat 16 k.val, q1 := BitVec.ofNat 16 i.val, q2 := 0, q3 := 0 } }
      redirects := Sparse.insert i.val { home := row, state := .parkCopying, owner := .context k } s.redirects
      copy := { s.copy with
        queue := s.copy.queue ++ [{ kind := .park, home := row, index := i, owner := .context k, progress := 0 }] }
      probes := { s.probes with
        contexts := s.probes.contexts.set k
          { state := .parking, target := row, mode := mode, pattern := pattern, seed := s.host.args.q1
            userPattern := if pattern = .user then
              some ([s.host.patternArgs.q0, s.host.patternArgs.q1, s.host.patternArgs.q2, s.host.patternArgs.q3].flatMap
                (fun p => [BitVec.ofNat 8 (p.toNat % 256), BitVec.ofNat 8 (p.toNat / 256)])) else none
            trials := bits w 8 3, step := if mode = .search then 2 else bits w 11 5, trial := 1, parkIndex := i
            burstsDone := 0, mismatch := 0, firstFailing := none, lastPassed := 0, failingStep := none
            failingMismatch := 0, prior := none, stretchTimer := .stopped, abortReason := none, outcome := none
            lfsr := (contextOf s k).lfsr } } })

/-- PROBE_ABORT accepted (R134 to R136). In PARKING the context's PARK job leaves the copy queue from its place, its entry
is removed, and the context logs ABORTED with reason HOST, LOG_READY being raised (R149), and is IDLE, or waits in DONE while
the log is full; a burst of
the job on the port will be discarded (R111). In WRITING, STRETCH or CHECKING the timer is cancelled, a RESTORE job is
appended, the entry becomes PARK/RESTORING and the context is RESTORING with reason HOST. No record changes. The log entry's
fields are those of R148. The command ends with the arbiter's choice (assumption 7). -/
def Obligations.ProbeAbortAccepted : Prop :=
  ∀ (s : State) (k : ContextId), isReady s = true → probeLaw s → s.host.args.q0.toNat = k.val →
    ((contextOf s k).state = .parking →
      ∃ u before j after, exec .probeAbort s = .next (arbitrate u) ∧ s.copy.queue = before ++ j :: after ∧
        j.kind = .park ∧ j.owner = .context k ∧ u.copy.queue = before ++ after ∧
        redirectAt u (contextOf s k).parkIndex = none ∧
        (∀ i, i ≠ (contextOf s k).parkIndex → redirectAt u i = redirectAt s i) ∧
        (s.copy.engine = .copying false → u.copy.engine = .copying (decide (before = []))) ∧
        (contextOf u k).abortReason = some .host ∧ u.records = s.records ∧
        (∀ m, m ≠ k → contextOf u m = contextOf s m) ∧
        u.host = { (if s.probes.log.length < 8 then (withEvents 0x010#10 s).host else s.host) with
          command := 2, status := .accepted } ∧
        (s.probes.log.length < 8 → (contextOf u k).state = .idle ∧ u.probes.waiting = s.probes.waiting ∧
          u.probes.log = s.probes.log ++
            [loggedEntry k { contextOf s k with abortReason := some .host } { name := .aborted, record := none }]) ∧
        (8 ≤ s.probes.log.length → (contextOf u k).state = .done ∧ u.probes.log = s.probes.log ∧
          u.probes.waiting = s.probes.waiting ++ [k])) ∧
    ((contextOf s k).state = .writing ∨ (contextOf s k).state = .stretch ∨ (contextOf s k).state = .checking →
      ∃ u, exec .probeAbort s = .next (arbitrate u) ∧
        contextOf u k = { contextOf s k with
          state := .restoring, abortReason := some .host, stretchTimer := .stopped } ∧
        (∀ m, m ≠ k → contextOf u m = contextOf s m) ∧
        u.copy.queue = s.copy.queue ++ [{ kind := .restore, home := (contextOf s k).target
                                          index := (contextOf s k).parkIndex, owner := .context k, progress := 0 }] ∧
        redirectAt u (contextOf s k).parkIndex =
          some { home := (contextOf s k).target, state := .parkRestoring, owner := .context k } ∧
        u.records = s.records ∧ u.probes.log = s.probes.log ∧
        u.host = { s.host with command := 2, status := .accepted })

/-- RETIRE (R112): its five tests in order, a refusal changing nothing but CMD and CMD_STATUS. Accepted, a SPARE/COPYING
entry of the command unit and a RETIRE job of progress 0 serve the row at the reserved row allocated, the retire outstanding
names both, RES0 gives the index, and the record is not changed. The accepted command ends with the arbiter's choice (R25,
assumption 7), which is read from the manual. -/
def Obligations.RetireTestsAndAcceptance : Prop :=
  ∀ s : State, running s = true →
    let row := rowOperand s.host.args.q3
    let present : Prop := row.device.val < s.deviceCount
    let free : Prop := ((recordOf s row).status ≠ .reserved ∧ (recordOf s row).status ≠ .retired ∧
      (recordOf s row).status ≠ .probing) ∧ ∀ p ∈ s.redirects, p.2.home ≠ row
    let refusedWith := fun (code : CommandStatus) =>
      exec .retire s = .next { s with host := { s.host with command := 3, status := code } }
    (isReady s = false → refusedWith .notReady) ∧
    (isReady s = true → ¬ present → refusedWith .badArg) ∧
    (isReady s = true → present → ¬ free → refusedWith .rowBusy) ∧
    (isReady s = true → present → free → s.copy.retire.isSome = true → refusedWith .busy) ∧
    (isReady s = true → present → free → s.copy.retire = none → allocateIndex s row.device = none →
      refusedWith .noReserve) ∧
    ∀ i, isReady s = true → present → free → s.copy.retire = none → allocateIndex s row.device = some i →
    exec .retire s = .next (arbitrate { s with
      host := { s.host with
        command := 3, status := .accepted
        results := { q0 := BitVec.ofNat 16 i.val, q1 := 0, q2 := 0, q3 := 0 } }
      redirects := Sparse.insert i.val { home := row, state := .spareCopying, owner := .command } s.redirects
      copy := { s.copy with
        queue := s.copy.queue ++ [{ kind := .retire, home := row, index := i, owner := .command, progress := 0 }]
        retire := some (row, i) } })

/-- RECORD_READ (R172): refused with NOT_READY outside READY and with BAD_ARG for an absent device; accepted, the named
row's record stands in RES0 to RES3 as it is at the command, an absent stamp or spare index with its present bit clear and
its value 0, and the command changes nothing else before it ends with the arbiter's choice (R25), which is read from the
manual (assumption 7). A PROBING record has class 0, margin 0 and no stamp (R41). -/
def Obligations.RecordReadTestsAndResult : Prop :=
  ∀ s : State, running s = true →
    let row := rowOperand s.host.args.q3
    let record := recordOf s row
    let code : Nat := match record.status with
      | .unprofiled => 0
      | .profiled => 1
      | .suspect => 2
      | .probing => 3
      | .retired => 4
      | .reserved => 5
    (isReady s = false →
      exec .recordRead s = .next { s with host := { s.host with command := 4, status := .notReady } }) ∧
    (isReady s = true → s.deviceCount ≤ row.device.val →
      exec .recordRead s = .next { s with host := { s.host with command := 4, status := .badArg } }) ∧
    (isReady s = true → row.device.val < s.deviceCount →
      exec .recordRead s = .next (arbitrate { s with
        host := { s.host with
          command := 4, status := .accepted
          results :=
            { q0 := BitVec.ofNat 16 (code + record.cls * 16 + record.margin * 256 + if record.queued then 32768 else 0)
              q1 := BitVec.ofNat 16 (match record.stamp with
                | some stamp => 32768 + stamp
                | none => 0)
              q2 := BitVec.ofNat 16 (match record.spare with
                | some i => 32768 + i.val
                | none => 0)
              q3 := BitVec.ofNat 16 (row.device.val * 4096 + row.number.val) } } })) ∧
    (recordLaw s → record.status = .probing → record.cls = 0 ∧ record.margin = 0 ∧ record.stamp = none)

/-- RECORD_WRITE accepted (R174). It gives the row the status written, a PROFILED one with its class and margin and the current
epoch as stamp, and leaves its due entry; a write of RETIRED binds the row to the spare written with no copy and removes its due
entry; the results hold the record as it then stands. A scan that the departure resumes makes its paused visit later (read from
R63 and R78, assumption 25). -/
def Obligations.RecordWriteAccepted : Prop :=
  ∀ s : State, firstRefusal 5 s = none →
    let row := rowOperand s.host.args.q3
    let w := s.host.args.q0
    let spare : ReservedIndex := Fin.ofNat 8 (bits s.host.args.q2 0 3)
    let old := recordOf s row
    ∃ u, exec .recordWrite s = .next (arbitrate u) ∧
      (bits w 0 3 = 0 → recordOf u row =
        { status := .unprofiled, cls := 0, margin := 0, stamp := none, queued := old.queued, spare := none }) ∧
      (bits w 0 3 = 1 → recordOf u row =
        { status := .profiled, cls := bits w 4 2, margin := bits w 8 5, stamp := some s.scheduler.epoch
          queued := old.queued, spare := none }) ∧
      (bits w 0 3 = 2 → recordOf u row =
        { status := .suspect, cls := 0, margin := bits w 8 5, stamp := none, queued := old.queued, spare := none }) ∧
      (bits w 0 3 ≠ 4 → u.scheduler = s.scheduler ∧ u.redirects = s.redirects) ∧
      (bits w 0 3 = 4 → dueQueueLaw s → recordOf u row =
          { status := .retired, cls := 0, margin := 0, stamp := none, queued := false, spare := some spare } ∧
        u.redirects = Sparse.insert spare.val { home := row, state := .spareActive, owner := .command } s.redirects ∧
        u.scheduler.due = s.scheduler.due.filter (fun e => decide (e.row ≠ row))) ∧
      (∀ r, r ≠ row → recordOf u r = recordOf s r) ∧ u.copy = s.copy ∧ u.probes = s.probes ∧
      u.host = { s.host with command := 5, status := .accepted, results := recordWords row (recordOf u row) }
end

