-- ==== Sys2Proof/Laws/State.lean ====
section
/-! SUPPORT. What each named update of the state leaves as it was, field by field, and what it puts in the field it is
named for: every lemma is true by definition, so that no later proof unfolds a record update. -/

namespace Sys2Proof.Machine

open Sys2Proof

variable (s : State)

/-! ### raiseEvent -/

@[simp] theorem raiseEvent_controller (flag : EventFlag) : (raiseEvent flag s).controller = s.controller := rfl
@[simp] theorem raiseEvent_deviceCount (flag : EventFlag) : (raiseEvent flag s).deviceCount = s.deviceCount := rfl
@[simp] theorem raiseEvent_config (flag : EventFlag) : (raiseEvent flag s).config = s.config := rfl
@[simp] theorem raiseEvent_port (flag : EventFlag) : (raiseEvent flag s).port = s.port := rfl
@[simp] theorem raiseEvent_records (flag : EventFlag) : (raiseEvent flag s).records = s.records := rfl
@[simp] theorem raiseEvent_scheduler (flag : EventFlag) : (raiseEvent flag s).scheduler = s.scheduler := rfl
@[simp] theorem raiseEvent_requests (flag : EventFlag) : (raiseEvent flag s).requests = s.requests := rfl
@[simp] theorem raiseEvent_redirects (flag : EventFlag) : (raiseEvent flag s).redirects = s.redirects := rfl
@[simp] theorem raiseEvent_copy (flag : EventFlag) : (raiseEvent flag s).copy = s.copy := rfl
@[simp] theorem raiseEvent_probes (flag : EventFlag) : (raiseEvent flag s).probes = s.probes := rfl
@[simp] theorem raiseEvent_supervisor (flag : EventFlag) : (raiseEvent flag s).supervisor = s.supervisor := rfl
@[simp] theorem raiseEvent_array (flag : EventFlag) : (raiseEvent flag s).array = s.array := rfl
@[simp] theorem raiseEvent_powerCycle (flag : EventFlag) : (raiseEvent flag s).powerCycle = s.powerCycle := rfl
@[simp] theorem raiseEvent_pending (flag : EventFlag) : (raiseEvent flag s).pending = s.pending := rfl

/-! ### recordHostError -/

@[simp] theorem recordHostError_controller (code : HostError) : (recordHostError code s).controller = s.controller := rfl
@[simp] theorem recordHostError_deviceCount (code : HostError) : (recordHostError code s).deviceCount = s.deviceCount := rfl
@[simp] theorem recordHostError_config (code : HostError) : (recordHostError code s).config = s.config := rfl
@[simp] theorem recordHostError_port (code : HostError) : (recordHostError code s).port = s.port := rfl
@[simp] theorem recordHostError_records (code : HostError) : (recordHostError code s).records = s.records := rfl
@[simp] theorem recordHostError_scheduler (code : HostError) : (recordHostError code s).scheduler = s.scheduler := rfl
@[simp] theorem recordHostError_requests (code : HostError) : (recordHostError code s).requests = s.requests := rfl
@[simp] theorem recordHostError_redirects (code : HostError) : (recordHostError code s).redirects = s.redirects := rfl
@[simp] theorem recordHostError_copy (code : HostError) : (recordHostError code s).copy = s.copy := rfl
@[simp] theorem recordHostError_probes (code : HostError) : (recordHostError code s).probes = s.probes := rfl
@[simp] theorem recordHostError_supervisor (code : HostError) : (recordHostError code s).supervisor = s.supervisor := rfl
@[simp] theorem recordHostError_array (code : HostError) : (recordHostError code s).array = s.array := rfl
@[simp] theorem recordHostError_powerCycle (code : HostError) : (recordHostError code s).powerCycle = s.powerCycle := rfl
@[simp] theorem recordHostError_pending (code : HostError) : (recordHostError code s).pending = s.pending := rfl

/-! ### setCommandStatus -/

@[simp] theorem setCommandStatus_controller (code : CommandStatus) : (setCommandStatus code s).controller = s.controller := rfl
@[simp] theorem setCommandStatus_deviceCount (code : CommandStatus) : (setCommandStatus code s).deviceCount = s.deviceCount := rfl
@[simp] theorem setCommandStatus_config (code : CommandStatus) : (setCommandStatus code s).config = s.config := rfl
@[simp] theorem setCommandStatus_port (code : CommandStatus) : (setCommandStatus code s).port = s.port := rfl
@[simp] theorem setCommandStatus_records (code : CommandStatus) : (setCommandStatus code s).records = s.records := rfl
@[simp] theorem setCommandStatus_scheduler (code : CommandStatus) : (setCommandStatus code s).scheduler = s.scheduler := rfl
@[simp] theorem setCommandStatus_requests (code : CommandStatus) : (setCommandStatus code s).requests = s.requests := rfl
@[simp] theorem setCommandStatus_redirects (code : CommandStatus) : (setCommandStatus code s).redirects = s.redirects := rfl
@[simp] theorem setCommandStatus_copy (code : CommandStatus) : (setCommandStatus code s).copy = s.copy := rfl
@[simp] theorem setCommandStatus_probes (code : CommandStatus) : (setCommandStatus code s).probes = s.probes := rfl
@[simp] theorem setCommandStatus_supervisor (code : CommandStatus) : (setCommandStatus code s).supervisor = s.supervisor := rfl
@[simp] theorem setCommandStatus_array (code : CommandStatus) : (setCommandStatus code s).array = s.array := rfl
@[simp] theorem setCommandStatus_powerCycle (code : CommandStatus) : (setCommandStatus code s).powerCycle = s.powerCycle := rfl
@[simp] theorem setCommandStatus_pending (code : CommandStatus) : (setCommandStatus code s).pending = s.pending := rfl

/-! ### setResults -/

@[simp] theorem setResults_controller (r0 r1 r2 r3 : Word) : (setResults r0 r1 r2 r3 s).controller = s.controller := rfl
@[simp] theorem setResults_deviceCount (r0 r1 r2 r3 : Word) : (setResults r0 r1 r2 r3 s).deviceCount = s.deviceCount := rfl
@[simp] theorem setResults_config (r0 r1 r2 r3 : Word) : (setResults r0 r1 r2 r3 s).config = s.config := rfl
@[simp] theorem setResults_port (r0 r1 r2 r3 : Word) : (setResults r0 r1 r2 r3 s).port = s.port := rfl
@[simp] theorem setResults_records (r0 r1 r2 r3 : Word) : (setResults r0 r1 r2 r3 s).records = s.records := rfl
@[simp] theorem setResults_scheduler (r0 r1 r2 r3 : Word) : (setResults r0 r1 r2 r3 s).scheduler = s.scheduler := rfl
@[simp] theorem setResults_requests (r0 r1 r2 r3 : Word) : (setResults r0 r1 r2 r3 s).requests = s.requests := rfl
@[simp] theorem setResults_redirects (r0 r1 r2 r3 : Word) : (setResults r0 r1 r2 r3 s).redirects = s.redirects := rfl
@[simp] theorem setResults_copy (r0 r1 r2 r3 : Word) : (setResults r0 r1 r2 r3 s).copy = s.copy := rfl
@[simp] theorem setResults_probes (r0 r1 r2 r3 : Word) : (setResults r0 r1 r2 r3 s).probes = s.probes := rfl
@[simp] theorem setResults_supervisor (r0 r1 r2 r3 : Word) : (setResults r0 r1 r2 r3 s).supervisor = s.supervisor := rfl
@[simp] theorem setResults_array (r0 r1 r2 r3 : Word) : (setResults r0 r1 r2 r3 s).array = s.array := rfl
@[simp] theorem setResults_powerCycle (r0 r1 r2 r3 : Word) : (setResults r0 r1 r2 r3 s).powerCycle = s.powerCycle := rfl
@[simp] theorem setResults_pending (r0 r1 r2 r3 : Word) : (setResults r0 r1 r2 r3 s).pending = s.pending := rfl

/-! ### setDevice -/

@[simp] theorem setDevice_controller (d : DeviceId) (v : DeviceState) : (setDevice d v s).controller = s.controller := rfl
@[simp] theorem setDevice_deviceCount (d : DeviceId) (v : DeviceState) : (setDevice d v s).deviceCount = s.deviceCount := rfl
@[simp] theorem setDevice_host (d : DeviceId) (v : DeviceState) : (setDevice d v s).host = s.host := rfl
@[simp] theorem setDevice_config (d : DeviceId) (v : DeviceState) : (setDevice d v s).config = s.config := rfl
@[simp] theorem setDevice_records (d : DeviceId) (v : DeviceState) : (setDevice d v s).records = s.records := rfl
@[simp] theorem setDevice_scheduler (d : DeviceId) (v : DeviceState) : (setDevice d v s).scheduler = s.scheduler := rfl
@[simp] theorem setDevice_requests (d : DeviceId) (v : DeviceState) : (setDevice d v s).requests = s.requests := rfl
@[simp] theorem setDevice_redirects (d : DeviceId) (v : DeviceState) : (setDevice d v s).redirects = s.redirects := rfl
@[simp] theorem setDevice_copy (d : DeviceId) (v : DeviceState) : (setDevice d v s).copy = s.copy := rfl
@[simp] theorem setDevice_probes (d : DeviceId) (v : DeviceState) : (setDevice d v s).probes = s.probes := rfl
@[simp] theorem setDevice_supervisor (d : DeviceId) (v : DeviceState) : (setDevice d v s).supervisor = s.supervisor := rfl
@[simp] theorem setDevice_array (d : DeviceId) (v : DeviceState) : (setDevice d v s).array = s.array := rfl
@[simp] theorem setDevice_powerCycle (d : DeviceId) (v : DeviceState) : (setDevice d v s).powerCycle = s.powerCycle := rfl
@[simp] theorem setDevice_pending (d : DeviceId) (v : DeviceState) : (setDevice d v s).pending = s.pending := rfl

/-! ### occupyPort -/

@[simp] theorem occupyPort_controller (op : PortOperation) : (occupyPort op s).controller = s.controller := rfl
@[simp] theorem occupyPort_deviceCount (op : PortOperation) : (occupyPort op s).deviceCount = s.deviceCount := rfl
@[simp] theorem occupyPort_host (op : PortOperation) : (occupyPort op s).host = s.host := rfl
@[simp] theorem occupyPort_config (op : PortOperation) : (occupyPort op s).config = s.config := rfl
@[simp] theorem occupyPort_records (op : PortOperation) : (occupyPort op s).records = s.records := rfl
@[simp] theorem occupyPort_scheduler (op : PortOperation) : (occupyPort op s).scheduler = s.scheduler := rfl
@[simp] theorem occupyPort_requests (op : PortOperation) : (occupyPort op s).requests = s.requests := rfl
@[simp] theorem occupyPort_redirects (op : PortOperation) : (occupyPort op s).redirects = s.redirects := rfl
@[simp] theorem occupyPort_copy (op : PortOperation) : (occupyPort op s).copy = s.copy := rfl
@[simp] theorem occupyPort_probes (op : PortOperation) : (occupyPort op s).probes = s.probes := rfl
@[simp] theorem occupyPort_supervisor (op : PortOperation) : (occupyPort op s).supervisor = s.supervisor := rfl
@[simp] theorem occupyPort_array (op : PortOperation) : (occupyPort op s).array = s.array := rfl
@[simp] theorem occupyPort_powerCycle (op : PortOperation) : (occupyPort op s).powerCycle = s.powerCycle := rfl
@[simp] theorem occupyPort_pending (op : PortOperation) : (occupyPort op s).pending = s.pending := rfl

/-! ### freePort -/

@[simp] theorem freePort_controller : (freePort s).controller = s.controller := rfl
@[simp] theorem freePort_deviceCount : (freePort s).deviceCount = s.deviceCount := rfl
@[simp] theorem freePort_host : (freePort s).host = s.host := rfl
@[simp] theorem freePort_config : (freePort s).config = s.config := rfl
@[simp] theorem freePort_records : (freePort s).records = s.records := rfl
@[simp] theorem freePort_scheduler : (freePort s).scheduler = s.scheduler := rfl
@[simp] theorem freePort_requests : (freePort s).requests = s.requests := rfl
@[simp] theorem freePort_redirects : (freePort s).redirects = s.redirects := rfl
@[simp] theorem freePort_copy : (freePort s).copy = s.copy := rfl
@[simp] theorem freePort_probes : (freePort s).probes = s.probes := rfl
@[simp] theorem freePort_supervisor : (freePort s).supervisor = s.supervisor := rfl
@[simp] theorem freePort_array : (freePort s).array = s.array := rfl
@[simp] theorem freePort_powerCycle : (freePort s).powerCycle = s.powerCycle := rfl
@[simp] theorem freePort_pending : (freePort s).pending = s.pending := rfl

/-! ### stopOpenRowTimer -/

@[simp] theorem stopOpenRowTimer_controller (d : DeviceId) : (stopOpenRowTimer d s).controller = s.controller := rfl
@[simp] theorem stopOpenRowTimer_deviceCount (d : DeviceId) : (stopOpenRowTimer d s).deviceCount = s.deviceCount := rfl
@[simp] theorem stopOpenRowTimer_host (d : DeviceId) : (stopOpenRowTimer d s).host = s.host := rfl
@[simp] theorem stopOpenRowTimer_config (d : DeviceId) : (stopOpenRowTimer d s).config = s.config := rfl
@[simp] theorem stopOpenRowTimer_records (d : DeviceId) : (stopOpenRowTimer d s).records = s.records := rfl
@[simp] theorem stopOpenRowTimer_scheduler (d : DeviceId) : (stopOpenRowTimer d s).scheduler = s.scheduler := rfl
@[simp] theorem stopOpenRowTimer_requests (d : DeviceId) : (stopOpenRowTimer d s).requests = s.requests := rfl
@[simp] theorem stopOpenRowTimer_redirects (d : DeviceId) : (stopOpenRowTimer d s).redirects = s.redirects := rfl
@[simp] theorem stopOpenRowTimer_copy (d : DeviceId) : (stopOpenRowTimer d s).copy = s.copy := rfl
@[simp] theorem stopOpenRowTimer_probes (d : DeviceId) : (stopOpenRowTimer d s).probes = s.probes := rfl
@[simp] theorem stopOpenRowTimer_supervisor (d : DeviceId) : (stopOpenRowTimer d s).supervisor = s.supervisor := rfl
@[simp] theorem stopOpenRowTimer_array (d : DeviceId) : (stopOpenRowTimer d s).array = s.array := rfl
@[simp] theorem stopOpenRowTimer_powerCycle (d : DeviceId) : (stopOpenRowTimer d s).powerCycle = s.powerCycle := rfl
@[simp] theorem stopOpenRowTimer_pending (d : DeviceId) : (stopOpenRowTimer d s).pending = s.pending := rfl

/-! ### closeDevice -/

@[simp] theorem closeDevice_controller (d : DeviceId) : (closeDevice d s).controller = s.controller := rfl
@[simp] theorem closeDevice_deviceCount (d : DeviceId) : (closeDevice d s).deviceCount = s.deviceCount := rfl
@[simp] theorem closeDevice_host (d : DeviceId) : (closeDevice d s).host = s.host := rfl
@[simp] theorem closeDevice_config (d : DeviceId) : (closeDevice d s).config = s.config := rfl
@[simp] theorem closeDevice_records (d : DeviceId) : (closeDevice d s).records = s.records := rfl
@[simp] theorem closeDevice_scheduler (d : DeviceId) : (closeDevice d s).scheduler = s.scheduler := rfl
@[simp] theorem closeDevice_requests (d : DeviceId) : (closeDevice d s).requests = s.requests := rfl
@[simp] theorem closeDevice_redirects (d : DeviceId) : (closeDevice d s).redirects = s.redirects := rfl
@[simp] theorem closeDevice_copy (d : DeviceId) : (closeDevice d s).copy = s.copy := rfl
@[simp] theorem closeDevice_probes (d : DeviceId) : (closeDevice d s).probes = s.probes := rfl
@[simp] theorem closeDevice_supervisor (d : DeviceId) : (closeDevice d s).supervisor = s.supervisor := rfl
@[simp] theorem closeDevice_array (d : DeviceId) : (closeDevice d s).array = s.array := rfl
@[simp] theorem closeDevice_powerCycle (d : DeviceId) : (closeDevice d s).powerCycle = s.powerCycle := rfl
@[simp] theorem closeDevice_pending (d : DeviceId) : (closeDevice d s).pending = s.pending := rfl

/-! ### openRowAtCompletion -/

@[simp] theorem openRowAtCompletion_controller (target : Row) (pageOpen hit : Bool) : (openRowAtCompletion target pageOpen hit s).controller = s.controller := rfl
@[simp] theorem openRowAtCompletion_deviceCount (target : Row) (pageOpen hit : Bool) : (openRowAtCompletion target pageOpen hit s).deviceCount = s.deviceCount := rfl
@[simp] theorem openRowAtCompletion_host (target : Row) (pageOpen hit : Bool) : (openRowAtCompletion target pageOpen hit s).host = s.host := rfl
@[simp] theorem openRowAtCompletion_config (target : Row) (pageOpen hit : Bool) : (openRowAtCompletion target pageOpen hit s).config = s.config := rfl
@[simp] theorem openRowAtCompletion_records (target : Row) (pageOpen hit : Bool) : (openRowAtCompletion target pageOpen hit s).records = s.records := rfl
@[simp] theorem openRowAtCompletion_scheduler (target : Row) (pageOpen hit : Bool) : (openRowAtCompletion target pageOpen hit s).scheduler = s.scheduler := rfl
@[simp] theorem openRowAtCompletion_requests (target : Row) (pageOpen hit : Bool) : (openRowAtCompletion target pageOpen hit s).requests = s.requests := rfl
@[simp] theorem openRowAtCompletion_redirects (target : Row) (pageOpen hit : Bool) : (openRowAtCompletion target pageOpen hit s).redirects = s.redirects := rfl
@[simp] theorem openRowAtCompletion_copy (target : Row) (pageOpen hit : Bool) : (openRowAtCompletion target pageOpen hit s).copy = s.copy := rfl
@[simp] theorem openRowAtCompletion_probes (target : Row) (pageOpen hit : Bool) : (openRowAtCompletion target pageOpen hit s).probes = s.probes := rfl
@[simp] theorem openRowAtCompletion_supervisor (target : Row) (pageOpen hit : Bool) : (openRowAtCompletion target pageOpen hit s).supervisor = s.supervisor := rfl
@[simp] theorem openRowAtCompletion_array (target : Row) (pageOpen hit : Bool) : (openRowAtCompletion target pageOpen hit s).array = s.array := rfl
@[simp] theorem openRowAtCompletion_powerCycle (target : Row) (pageOpen hit : Bool) : (openRowAtCompletion target pageOpen hit s).powerCycle = s.powerCycle := rfl
@[simp] theorem openRowAtCompletion_pending (target : Row) (pageOpen hit : Bool) : (openRowAtCompletion target pageOpen hit s).pending = s.pending := rfl

/-! ### setRecord -/

@[simp] theorem setRecord_controller (r : Row) (v : Record) : (setRecord r v s).controller = s.controller := rfl
@[simp] theorem setRecord_deviceCount (r : Row) (v : Record) : (setRecord r v s).deviceCount = s.deviceCount := rfl
@[simp] theorem setRecord_host (r : Row) (v : Record) : (setRecord r v s).host = s.host := rfl
@[simp] theorem setRecord_config (r : Row) (v : Record) : (setRecord r v s).config = s.config := rfl
@[simp] theorem setRecord_port (r : Row) (v : Record) : (setRecord r v s).port = s.port := rfl
@[simp] theorem setRecord_scheduler (r : Row) (v : Record) : (setRecord r v s).scheduler = s.scheduler := rfl
@[simp] theorem setRecord_requests (r : Row) (v : Record) : (setRecord r v s).requests = s.requests := rfl
@[simp] theorem setRecord_redirects (r : Row) (v : Record) : (setRecord r v s).redirects = s.redirects := rfl
@[simp] theorem setRecord_copy (r : Row) (v : Record) : (setRecord r v s).copy = s.copy := rfl
@[simp] theorem setRecord_probes (r : Row) (v : Record) : (setRecord r v s).probes = s.probes := rfl
@[simp] theorem setRecord_supervisor (r : Row) (v : Record) : (setRecord r v s).supervisor = s.supervisor := rfl
@[simp] theorem setRecord_array (r : Row) (v : Record) : (setRecord r v s).array = s.array := rfl
@[simp] theorem setRecord_powerCycle (r : Row) (v : Record) : (setRecord r v s).powerCycle = s.powerCycle := rfl
@[simp] theorem setRecord_pending (r : Row) (v : Record) : (setRecord r v s).pending = s.pending := rfl

/-! ### setRedirect -/

@[simp] theorem setRedirect_controller (i : ReservedIndex) (e : RedirectEntry) : (setRedirect i e s).controller = s.controller := rfl
@[simp] theorem setRedirect_deviceCount (i : ReservedIndex) (e : RedirectEntry) : (setRedirect i e s).deviceCount = s.deviceCount := rfl
@[simp] theorem setRedirect_host (i : ReservedIndex) (e : RedirectEntry) : (setRedirect i e s).host = s.host := rfl
@[simp] theorem setRedirect_config (i : ReservedIndex) (e : RedirectEntry) : (setRedirect i e s).config = s.config := rfl
@[simp] theorem setRedirect_port (i : ReservedIndex) (e : RedirectEntry) : (setRedirect i e s).port = s.port := rfl
@[simp] theorem setRedirect_records (i : ReservedIndex) (e : RedirectEntry) : (setRedirect i e s).records = s.records := rfl
@[simp] theorem setRedirect_scheduler (i : ReservedIndex) (e : RedirectEntry) : (setRedirect i e s).scheduler = s.scheduler := rfl
@[simp] theorem setRedirect_requests (i : ReservedIndex) (e : RedirectEntry) : (setRedirect i e s).requests = s.requests := rfl
@[simp] theorem setRedirect_copy (i : ReservedIndex) (e : RedirectEntry) : (setRedirect i e s).copy = s.copy := rfl
@[simp] theorem setRedirect_probes (i : ReservedIndex) (e : RedirectEntry) : (setRedirect i e s).probes = s.probes := rfl
@[simp] theorem setRedirect_supervisor (i : ReservedIndex) (e : RedirectEntry) : (setRedirect i e s).supervisor = s.supervisor := rfl
@[simp] theorem setRedirect_array (i : ReservedIndex) (e : RedirectEntry) : (setRedirect i e s).array = s.array := rfl
@[simp] theorem setRedirect_powerCycle (i : ReservedIndex) (e : RedirectEntry) : (setRedirect i e s).powerCycle = s.powerCycle := rfl
@[simp] theorem setRedirect_pending (i : ReservedIndex) (e : RedirectEntry) : (setRedirect i e s).pending = s.pending := rfl

/-! ### removeRedirect -/

@[simp] theorem removeRedirect_controller (i : ReservedIndex) : (removeRedirect i s).controller = s.controller := rfl
@[simp] theorem removeRedirect_deviceCount (i : ReservedIndex) : (removeRedirect i s).deviceCount = s.deviceCount := rfl
@[simp] theorem removeRedirect_host (i : ReservedIndex) : (removeRedirect i s).host = s.host := rfl
@[simp] theorem removeRedirect_config (i : ReservedIndex) : (removeRedirect i s).config = s.config := rfl
@[simp] theorem removeRedirect_port (i : ReservedIndex) : (removeRedirect i s).port = s.port := rfl
@[simp] theorem removeRedirect_records (i : ReservedIndex) : (removeRedirect i s).records = s.records := rfl
@[simp] theorem removeRedirect_scheduler (i : ReservedIndex) : (removeRedirect i s).scheduler = s.scheduler := rfl
@[simp] theorem removeRedirect_requests (i : ReservedIndex) : (removeRedirect i s).requests = s.requests := rfl
@[simp] theorem removeRedirect_copy (i : ReservedIndex) : (removeRedirect i s).copy = s.copy := rfl
@[simp] theorem removeRedirect_probes (i : ReservedIndex) : (removeRedirect i s).probes = s.probes := rfl
@[simp] theorem removeRedirect_supervisor (i : ReservedIndex) : (removeRedirect i s).supervisor = s.supervisor := rfl
@[simp] theorem removeRedirect_array (i : ReservedIndex) : (removeRedirect i s).array = s.array := rfl
@[simp] theorem removeRedirect_powerCycle (i : ReservedIndex) : (removeRedirect i s).powerCycle = s.powerCycle := rfl
@[simp] theorem removeRedirect_pending (i : ReservedIndex) : (removeRedirect i s).pending = s.pending := rfl

/-! ### setContext -/

@[simp] theorem setContext_controller (k : ContextId) (c : ProbeContext) : (setContext k c s).controller = s.controller := rfl
@[simp] theorem setContext_deviceCount (k : ContextId) (c : ProbeContext) : (setContext k c s).deviceCount = s.deviceCount := rfl
@[simp] theorem setContext_host (k : ContextId) (c : ProbeContext) : (setContext k c s).host = s.host := rfl
@[simp] theorem setContext_config (k : ContextId) (c : ProbeContext) : (setContext k c s).config = s.config := rfl
@[simp] theorem setContext_port (k : ContextId) (c : ProbeContext) : (setContext k c s).port = s.port := rfl
@[simp] theorem setContext_records (k : ContextId) (c : ProbeContext) : (setContext k c s).records = s.records := rfl
@[simp] theorem setContext_scheduler (k : ContextId) (c : ProbeContext) : (setContext k c s).scheduler = s.scheduler := rfl
@[simp] theorem setContext_requests (k : ContextId) (c : ProbeContext) : (setContext k c s).requests = s.requests := rfl
@[simp] theorem setContext_redirects (k : ContextId) (c : ProbeContext) : (setContext k c s).redirects = s.redirects := rfl
@[simp] theorem setContext_copy (k : ContextId) (c : ProbeContext) : (setContext k c s).copy = s.copy := rfl
@[simp] theorem setContext_supervisor (k : ContextId) (c : ProbeContext) : (setContext k c s).supervisor = s.supervisor := rfl
@[simp] theorem setContext_array (k : ContextId) (c : ProbeContext) : (setContext k c s).array = s.array := rfl
@[simp] theorem setContext_powerCycle (k : ContextId) (c : ProbeContext) : (setContext k c s).powerCycle = s.powerCycle := rfl
@[simp] theorem setContext_pending (k : ContextId) (c : ProbeContext) : (setContext k c s).pending = s.pending := rfl

/-! ### writeBytes -/

@[simp] theorem writeBytes_controller (r : Row) (column : Nat) (bytes : List Byte) : (writeBytes r column bytes s).controller = s.controller := rfl
@[simp] theorem writeBytes_deviceCount (r : Row) (column : Nat) (bytes : List Byte) : (writeBytes r column bytes s).deviceCount = s.deviceCount := rfl
@[simp] theorem writeBytes_host (r : Row) (column : Nat) (bytes : List Byte) : (writeBytes r column bytes s).host = s.host := rfl
@[simp] theorem writeBytes_config (r : Row) (column : Nat) (bytes : List Byte) : (writeBytes r column bytes s).config = s.config := rfl
@[simp] theorem writeBytes_port (r : Row) (column : Nat) (bytes : List Byte) : (writeBytes r column bytes s).port = s.port := rfl
@[simp] theorem writeBytes_records (r : Row) (column : Nat) (bytes : List Byte) : (writeBytes r column bytes s).records = s.records := rfl
@[simp] theorem writeBytes_scheduler (r : Row) (column : Nat) (bytes : List Byte) : (writeBytes r column bytes s).scheduler = s.scheduler := rfl
@[simp] theorem writeBytes_requests (r : Row) (column : Nat) (bytes : List Byte) : (writeBytes r column bytes s).requests = s.requests := rfl
@[simp] theorem writeBytes_redirects (r : Row) (column : Nat) (bytes : List Byte) : (writeBytes r column bytes s).redirects = s.redirects := rfl
@[simp] theorem writeBytes_copy (r : Row) (column : Nat) (bytes : List Byte) : (writeBytes r column bytes s).copy = s.copy := rfl
@[simp] theorem writeBytes_probes (r : Row) (column : Nat) (bytes : List Byte) : (writeBytes r column bytes s).probes = s.probes := rfl
@[simp] theorem writeBytes_supervisor (r : Row) (column : Nat) (bytes : List Byte) : (writeBytes r column bytes s).supervisor = s.supervisor := rfl
@[simp] theorem writeBytes_powerCycle (r : Row) (column : Nat) (bytes : List Byte) : (writeBytes r column bytes s).powerCycle = s.powerCycle := rfl
@[simp] theorem writeBytes_pending (r : Row) (column : Nat) (bytes : List Byte) : (writeBytes r column bytes s).pending = s.pending := rfl

/-! ### applyDecay -/

@[simp] theorem applyDecay_controller (r : Row) (decay : Decay) : (applyDecay r decay s).controller = s.controller := rfl
@[simp] theorem applyDecay_deviceCount (r : Row) (decay : Decay) : (applyDecay r decay s).deviceCount = s.deviceCount := rfl
@[simp] theorem applyDecay_host (r : Row) (decay : Decay) : (applyDecay r decay s).host = s.host := rfl
@[simp] theorem applyDecay_config (r : Row) (decay : Decay) : (applyDecay r decay s).config = s.config := rfl
@[simp] theorem applyDecay_port (r : Row) (decay : Decay) : (applyDecay r decay s).port = s.port := rfl
@[simp] theorem applyDecay_records (r : Row) (decay : Decay) : (applyDecay r decay s).records = s.records := rfl
@[simp] theorem applyDecay_scheduler (r : Row) (decay : Decay) : (applyDecay r decay s).scheduler = s.scheduler := rfl
@[simp] theorem applyDecay_requests (r : Row) (decay : Decay) : (applyDecay r decay s).requests = s.requests := rfl
@[simp] theorem applyDecay_redirects (r : Row) (decay : Decay) : (applyDecay r decay s).redirects = s.redirects := rfl
@[simp] theorem applyDecay_copy (r : Row) (decay : Decay) : (applyDecay r decay s).copy = s.copy := rfl
@[simp] theorem applyDecay_probes (r : Row) (decay : Decay) : (applyDecay r decay s).probes = s.probes := rfl
@[simp] theorem applyDecay_supervisor (r : Row) (decay : Decay) : (applyDecay r decay s).supervisor = s.supervisor := rfl
@[simp] theorem applyDecay_powerCycle (r : Row) (decay : Decay) : (applyDecay r decay s).powerCycle = s.powerCycle := rfl
@[simp] theorem applyDecay_pending (r : Row) (decay : Decay) : (applyDecay r decay s).pending = s.pending := rfl

/-! ### startSliceTimer -/

@[simp] theorem startSliceTimer_controller : (startSliceTimer s).controller = s.controller := rfl
@[simp] theorem startSliceTimer_deviceCount : (startSliceTimer s).deviceCount = s.deviceCount := rfl
@[simp] theorem startSliceTimer_host : (startSliceTimer s).host = s.host := rfl
@[simp] theorem startSliceTimer_config : (startSliceTimer s).config = s.config := rfl
@[simp] theorem startSliceTimer_port : (startSliceTimer s).port = s.port := rfl
@[simp] theorem startSliceTimer_records : (startSliceTimer s).records = s.records := rfl
@[simp] theorem startSliceTimer_requests : (startSliceTimer s).requests = s.requests := rfl
@[simp] theorem startSliceTimer_redirects : (startSliceTimer s).redirects = s.redirects := rfl
@[simp] theorem startSliceTimer_copy : (startSliceTimer s).copy = s.copy := rfl
@[simp] theorem startSliceTimer_probes : (startSliceTimer s).probes = s.probes := rfl
@[simp] theorem startSliceTimer_supervisor : (startSliceTimer s).supervisor = s.supervisor := rfl
@[simp] theorem startSliceTimer_array : (startSliceTimer s).array = s.array := rfl
@[simp] theorem startSliceTimer_powerCycle : (startSliceTimer s).powerCycle = s.powerCycle := rfl
@[simp] theorem startSliceTimer_pending : (startSliceTimer s).pending = s.pending := rfl

/-! ### appendCompletion -/

@[simp] theorem appendCompletion_controller (c : Completion) : (appendCompletion c s).controller = s.controller := rfl
@[simp] theorem appendCompletion_deviceCount (c : Completion) : (appendCompletion c s).deviceCount = s.deviceCount := rfl
@[simp] theorem appendCompletion_config (c : Completion) : (appendCompletion c s).config = s.config := rfl
@[simp] theorem appendCompletion_port (c : Completion) : (appendCompletion c s).port = s.port := rfl
@[simp] theorem appendCompletion_records (c : Completion) : (appendCompletion c s).records = s.records := rfl
@[simp] theorem appendCompletion_scheduler (c : Completion) : (appendCompletion c s).scheduler = s.scheduler := rfl
@[simp] theorem appendCompletion_redirects (c : Completion) : (appendCompletion c s).redirects = s.redirects := rfl
@[simp] theorem appendCompletion_copy (c : Completion) : (appendCompletion c s).copy = s.copy := rfl
@[simp] theorem appendCompletion_probes (c : Completion) : (appendCompletion c s).probes = s.probes := rfl
@[simp] theorem appendCompletion_supervisor (c : Completion) : (appendCompletion c s).supervisor = s.supervisor := rfl
@[simp] theorem appendCompletion_array (c : Completion) : (appendCompletion c s).array = s.array := rfl
@[simp] theorem appendCompletion_powerCycle (c : Completion) : (appendCompletion c s).powerCycle = s.powerCycle := rfl
@[simp] theorem appendCompletion_pending (c : Completion) : (appendCompletion c s).pending = s.pending := rfl

/-! ### acceptPost -/

@[simp] theorem acceptPost_controller (q : Request) : (acceptPost q s).controller = s.controller := rfl
@[simp] theorem acceptPost_deviceCount (q : Request) : (acceptPost q s).deviceCount = s.deviceCount := rfl
@[simp] theorem acceptPost_host (q : Request) : (acceptPost q s).host = s.host := rfl
@[simp] theorem acceptPost_config (q : Request) : (acceptPost q s).config = s.config := rfl
@[simp] theorem acceptPost_port (q : Request) : (acceptPost q s).port = s.port := rfl
@[simp] theorem acceptPost_records (q : Request) : (acceptPost q s).records = s.records := rfl
@[simp] theorem acceptPost_scheduler (q : Request) : (acceptPost q s).scheduler = s.scheduler := rfl
@[simp] theorem acceptPost_redirects (q : Request) : (acceptPost q s).redirects = s.redirects := rfl
@[simp] theorem acceptPost_copy (q : Request) : (acceptPost q s).copy = s.copy := rfl
@[simp] theorem acceptPost_probes (q : Request) : (acceptPost q s).probes = s.probes := rfl
@[simp] theorem acceptPost_supervisor (q : Request) : (acceptPost q s).supervisor = s.supervisor := rfl
@[simp] theorem acceptPost_array (q : Request) : (acceptPost q s).array = s.array := rfl
@[simp] theorem acceptPost_powerCycle (q : Request) : (acceptPost q s).powerCycle = s.powerCycle := rfl
@[simp] theorem acceptPost_pending (q : Request) : (acceptPost q s).pending = s.pending := rfl

/-! ### appendDue -/

@[simp] theorem appendDue_controller (row : Row) (stamp : Nat) : (appendDue row stamp s).controller = s.controller := rfl
@[simp] theorem appendDue_deviceCount (row : Row) (stamp : Nat) : (appendDue row stamp s).deviceCount = s.deviceCount := rfl
@[simp] theorem appendDue_host (row : Row) (stamp : Nat) : (appendDue row stamp s).host = s.host := rfl
@[simp] theorem appendDue_config (row : Row) (stamp : Nat) : (appendDue row stamp s).config = s.config := rfl
@[simp] theorem appendDue_port (row : Row) (stamp : Nat) : (appendDue row stamp s).port = s.port := rfl
@[simp] theorem appendDue_requests (row : Row) (stamp : Nat) : (appendDue row stamp s).requests = s.requests := rfl
@[simp] theorem appendDue_redirects (row : Row) (stamp : Nat) : (appendDue row stamp s).redirects = s.redirects := rfl
@[simp] theorem appendDue_copy (row : Row) (stamp : Nat) : (appendDue row stamp s).copy = s.copy := rfl
@[simp] theorem appendDue_probes (row : Row) (stamp : Nat) : (appendDue row stamp s).probes = s.probes := rfl
@[simp] theorem appendDue_supervisor (row : Row) (stamp : Nat) : (appendDue row stamp s).supervisor = s.supervisor := rfl
@[simp] theorem appendDue_array (row : Row) (stamp : Nat) : (appendDue row stamp s).array = s.array := rfl
@[simp] theorem appendDue_powerCycle (row : Row) (stamp : Nat) : (appendDue row stamp s).powerCycle = s.powerCycle := rfl
@[simp] theorem appendDue_pending (row : Row) (stamp : Nat) : (appendDue row stamp s).pending = s.pending := rfl

/-! ### overrun -/

@[simp] theorem overrun_controller : (overrun s).controller = s.controller := rfl
@[simp] theorem overrun_deviceCount : (overrun s).deviceCount = s.deviceCount := rfl
@[simp] theorem overrun_config : (overrun s).config = s.config := rfl
@[simp] theorem overrun_port : (overrun s).port = s.port := rfl
@[simp] theorem overrun_records : (overrun s).records = s.records := rfl
@[simp] theorem overrun_requests : (overrun s).requests = s.requests := rfl
@[simp] theorem overrun_redirects : (overrun s).redirects = s.redirects := rfl
@[simp] theorem overrun_copy : (overrun s).copy = s.copy := rfl
@[simp] theorem overrun_probes : (overrun s).probes = s.probes := rfl
@[simp] theorem overrun_supervisor : (overrun s).supervisor = s.supervisor := rfl
@[simp] theorem overrun_array : (overrun s).array = s.array := rfl
@[simp] theorem overrun_powerCycle : (overrun s).powerCycle = s.powerCycle := rfl
@[simp] theorem overrun_pending : (overrun s).pending = s.pending := rfl

/-! ### The field each update is named for -/

theorem raiseEvent_host (flag : EventFlag) :
    (raiseEvent flag s).host = { s.host with
      events := s.host.events ||| flag.word
      interrupt := decide ((s.host.events ||| flag.word) &&& s.host.mask ≠ 0) } := rfl

@[simp] theorem raiseEvent_events (flag : EventFlag) :
    (raiseEvent flag s).host.events = s.host.events ||| flag.word := rfl

@[simp] theorem raiseEvent_mask (flag : EventFlag) : (raiseEvent flag s).host.mask = s.host.mask := rfl

@[simp] theorem raiseEvent_error (flag : EventFlag) : (raiseEvent flag s).host.error = s.host.error := rfl

@[simp] theorem raiseEvent_command (flag : EventFlag) : (raiseEvent flag s).host.command = s.host.command := rfl

@[simp] theorem raiseEvent_status (flag : EventFlag) : (raiseEvent flag s).host.status = s.host.status := rfl

@[simp] theorem raiseEvent_args (flag : EventFlag) : (raiseEvent flag s).host.args = s.host.args := rfl

@[simp] theorem raiseEvent_patternArgs (flag : EventFlag) :
    (raiseEvent flag s).host.patternArgs = s.host.patternArgs := rfl

@[simp] theorem raiseEvent_results (flag : EventFlag) : (raiseEvent flag s).host.results = s.host.results := rfl

@[simp] theorem raiseEvent_readData (flag : EventFlag) : (raiseEvent flag s).host.readData = s.host.readData := rfl

@[simp] theorem setCommandStatus_host (code : CommandStatus) :
    (setCommandStatus code s).host = { s.host with status := code } := rfl

@[simp] theorem setResults_host (r0 r1 r2 r3 : Word) :
    (setResults r0 r1 r2 r3 s).host = { s.host with results := { q0 := r0, q1 := r1, q2 := r2, q3 := r3 } } := rfl

@[simp] theorem setDevice_port (d : DeviceId) (v : DeviceState) :
    (setDevice d v s).port = { s.port with devices := s.port.devices.set d v } := rfl

@[simp] theorem occupyPort_port (op : PortOperation) :
    (occupyPort op s).port = { s.port with operation := some op } := rfl

@[simp] theorem freePort_port : (freePort s).port = { s.port with operation := none } := rfl

@[simp] theorem setContext_probes (k : ContextId) (c : ProbeContext) :
    (setContext k c s).probes = { s.probes with contexts := s.probes.contexts.set k c } := rfl

@[simp] theorem setRedirect_redirects (i : ReservedIndex) (e : RedirectEntry) :
    (setRedirect i e s).redirects = Sparse.insert i.val e s.redirects := rfl

@[simp] theorem removeRedirect_redirects (i : ReservedIndex) :
    (removeRedirect i s).redirects = Sparse.erase i.val s.redirects := rfl

@[simp] theorem startSliceTimer_scheduler :
    (startSliceTimer s).scheduler =
      { s.scheduler with sliceTimer := .running (Config.slicePeriod s.scheduler.tbase) 0 } := rfl

@[simp] theorem overrun_scheduler : (overrun s).scheduler = { s.scheduler with forced := true } := rfl

@[simp] theorem appendDue_scheduler (row : Row) (stamp : Nat) :
    (appendDue row stamp s).scheduler =
      { s.scheduler with due := s.scheduler.due ++ [{ row := row, stamp := stamp }] } := rfl

@[simp] theorem appendCompletion_requests (c : Completion) :
    (appendCompletion c s).requests = { s.requests with
      completions := s.requests.completions ++ [c]
      cursor := if s.requests.completions.isEmpty then 0 else s.requests.cursor } := rfl

@[simp] theorem appendCompletion_host (c : Completion) :
    (appendCompletion c s).host = (raiseEvent .cqReady s).host := rfl

@[simp] theorem setCommandStatus_running (code : CommandStatus) : running (setCommandStatus code s) = running s := rfl

@[simp] theorem raiseEvent_running (flag : EventFlag) : running (raiseEvent flag s) = running s := rfl

/-! ### Reading through updates of other fields -/


@[simp] theorem raiseEvent_recordOf (flag : EventFlag) (r : Row) :
    recordOf (raiseEvent flag s) r = recordOf s r := rfl

@[simp] theorem setCommandStatus_recordOf (code : CommandStatus) (r : Row) :
    recordOf (setCommandStatus code s) r = recordOf s r := rfl

@[simp] theorem setResults_recordOf (r0 r1 r2 r3 : Word) (r : Row) :
    recordOf (setResults r0 r1 r2 r3 s) r = recordOf s r := rfl

@[simp] theorem setDevice_recordOf (d : DeviceId) (v : DeviceState) (r : Row) :
    recordOf (setDevice d v s) r = recordOf s r := rfl

@[simp] theorem freePort_recordOf (r : Row) :
    recordOf (freePort s) r = recordOf s r := rfl

@[simp] theorem occupyPort_recordOf (op : PortOperation) (r : Row) :
    recordOf (occupyPort op s) r = recordOf s r := rfl

@[simp] theorem setRedirect_recordOf (i : ReservedIndex) (e : RedirectEntry) (r : Row) :
    recordOf (setRedirect i e s) r = recordOf s r := rfl

@[simp] theorem removeRedirect_recordOf (i : ReservedIndex) (r : Row) :
    recordOf (removeRedirect i s) r = recordOf s r := rfl

@[simp] theorem setContext_recordOf (k : ContextId) (c : ProbeContext) (r : Row) :
    recordOf (setContext k c s) r = recordOf s r := rfl

@[simp] theorem writeBytes_recordOf (r : Row) (column : Nat) (bytes : List Byte) (x : Row) :
    recordOf (writeBytes r column bytes s) x = recordOf s x := rfl

@[simp] theorem applyDecay_recordOf (r : Row) (decay : Decay) (x : Row) :
    recordOf (applyDecay r decay s) x = recordOf s x := rfl

@[simp] theorem startSliceTimer_recordOf (r : Row) :
    recordOf (startSliceTimer s) r = recordOf s r := rfl

@[simp] theorem overrun_recordOf (r : Row) :
    recordOf (overrun s) r = recordOf s r := rfl

@[simp] theorem stopOpenRowTimer_recordOf (d : DeviceId) (r : Row) :
    recordOf (stopOpenRowTimer d s) r = recordOf s r := rfl

@[simp] theorem closeDevice_recordOf (d : DeviceId) (r : Row) :
    recordOf (closeDevice d s) r = recordOf s r := rfl

@[simp] theorem appendCompletion_recordOf (c : Completion) (r : Row) :
    recordOf (appendCompletion c s) r = recordOf s r := rfl

@[simp] theorem raiseEvent_redirectAt (flag : EventFlag) (j : ReservedIndex) :
    redirectAt (raiseEvent flag s) j = redirectAt s j := rfl

@[simp] theorem setCommandStatus_redirectAt (code : CommandStatus) (j : ReservedIndex) :
    redirectAt (setCommandStatus code s) j = redirectAt s j := rfl

@[simp] theorem setResults_redirectAt (r0 r1 r2 r3 : Word) (j : ReservedIndex) :
    redirectAt (setResults r0 r1 r2 r3 s) j = redirectAt s j := rfl

@[simp] theorem setRecord_redirectAt (r : Row) (v : Record) (j : ReservedIndex) :
    redirectAt (setRecord r v s) j = redirectAt s j := rfl

@[simp] theorem setContext_redirectAt (k : ContextId) (c : ProbeContext) (j : ReservedIndex) :
    redirectAt (setContext k c s) j = redirectAt s j := rfl

@[simp] theorem setDevice_redirectAt (d : DeviceId) (v : DeviceState) (j : ReservedIndex) :
    redirectAt (setDevice d v s) j = redirectAt s j := rfl

@[simp] theorem freePort_redirectAt (j : ReservedIndex) :
    redirectAt (freePort s) j = redirectAt s j := rfl

@[simp] theorem occupyPort_redirectAt (op : PortOperation) (j : ReservedIndex) :
    redirectAt (occupyPort op s) j = redirectAt s j := rfl

@[simp] theorem writeBytes_redirectAt (r : Row) (column : Nat) (bytes : List Byte) (j : ReservedIndex) :
    redirectAt (writeBytes r column bytes s) j = redirectAt s j := rfl

@[simp] theorem applyDecay_redirectAt (r : Row) (decay : Decay) (j : ReservedIndex) :
    redirectAt (applyDecay r decay s) j = redirectAt s j := rfl

@[simp] theorem startSliceTimer_redirectAt (j : ReservedIndex) :
    redirectAt (startSliceTimer s) j = redirectAt s j := rfl

@[simp] theorem overrun_redirectAt (j : ReservedIndex) :
    redirectAt (overrun s) j = redirectAt s j := rfl

@[simp] theorem appendDue_redirectAt (row : Row) (stamp : Nat) (j : ReservedIndex) :
    redirectAt (appendDue row stamp s) j = redirectAt s j := rfl

@[simp] theorem appendCompletion_redirectAt (c : Completion) (j : ReservedIndex) :
    redirectAt (appendCompletion c s) j = redirectAt s j := rfl

@[simp] theorem raiseEvent_contextOf (flag : EventFlag) (m : ContextId) :
    contextOf (raiseEvent flag s) m = contextOf s m := rfl

@[simp] theorem setCommandStatus_contextOf (code : CommandStatus) (m : ContextId) :
    contextOf (setCommandStatus code s) m = contextOf s m := rfl

@[simp] theorem setResults_contextOf (r0 r1 r2 r3 : Word) (m : ContextId) :
    contextOf (setResults r0 r1 r2 r3 s) m = contextOf s m := rfl

@[simp] theorem setRecord_contextOf (r : Row) (v : Record) (m : ContextId) :
    contextOf (setRecord r v s) m = contextOf s m := rfl

@[simp] theorem setRedirect_contextOf (i : ReservedIndex) (e : RedirectEntry) (m : ContextId) :
    contextOf (setRedirect i e s) m = contextOf s m := rfl

@[simp] theorem removeRedirect_contextOf (i : ReservedIndex) (m : ContextId) :
    contextOf (removeRedirect i s) m = contextOf s m := rfl

@[simp] theorem setDevice_contextOf (d : DeviceId) (v : DeviceState) (m : ContextId) :
    contextOf (setDevice d v s) m = contextOf s m := rfl

@[simp] theorem freePort_contextOf (m : ContextId) :
    contextOf (freePort s) m = contextOf s m := rfl

@[simp] theorem occupyPort_contextOf (op : PortOperation) (m : ContextId) :
    contextOf (occupyPort op s) m = contextOf s m := rfl

@[simp] theorem writeBytes_contextOf (r : Row) (column : Nat) (bytes : List Byte) (m : ContextId) :
    contextOf (writeBytes r column bytes s) m = contextOf s m := rfl

@[simp] theorem applyDecay_contextOf (r : Row) (decay : Decay) (m : ContextId) :
    contextOf (applyDecay r decay s) m = contextOf s m := rfl

@[simp] theorem startSliceTimer_contextOf (m : ContextId) :
    contextOf (startSliceTimer s) m = contextOf s m := rfl

@[simp] theorem overrun_contextOf (m : ContextId) :
    contextOf (overrun s) m = contextOf s m := rfl

@[simp] theorem appendDue_contextOf (row : Row) (stamp : Nat) (m : ContextId) :
    contextOf (appendDue row stamp s) m = contextOf s m := rfl

@[simp] theorem appendCompletion_contextOf (c : Completion) (m : ContextId) :
    contextOf (appendCompletion c s) m = contextOf s m := rfl

@[simp] theorem stopOpenRowTimer_contextOf (d : DeviceId) (m : ContextId) :
    contextOf (stopOpenRowTimer d s) m = contextOf s m := rfl

@[simp] theorem closeDevice_contextOf (d : DeviceId) (m : ContextId) :
    contextOf (closeDevice d s) m = contextOf s m := rfl

@[simp] theorem raiseEvent_deviceState (flag : EventFlag) (e : DeviceId) :
    deviceState (raiseEvent flag s) e = deviceState s e := rfl

@[simp] theorem setCommandStatus_deviceState (code : CommandStatus) (e : DeviceId) :
    deviceState (setCommandStatus code s) e = deviceState s e := rfl

@[simp] theorem setResults_deviceState (r0 r1 r2 r3 : Word) (e : DeviceId) :
    deviceState (setResults r0 r1 r2 r3 s) e = deviceState s e := rfl

@[simp] theorem setRecord_deviceState (r : Row) (v : Record) (e : DeviceId) :
    deviceState (setRecord r v s) e = deviceState s e := rfl

@[simp] theorem setRedirect_deviceState (i : ReservedIndex) (e : RedirectEntry) (x : DeviceId) :
    deviceState (setRedirect i e s) x = deviceState s x := rfl

@[simp] theorem removeRedirect_deviceState (i : ReservedIndex) (e : DeviceId) :
    deviceState (removeRedirect i s) e = deviceState s e := rfl

@[simp] theorem setContext_deviceState (k : ContextId) (c : ProbeContext) (e : DeviceId) :
    deviceState (setContext k c s) e = deviceState s e := rfl

@[simp] theorem writeBytes_deviceState (r : Row) (column : Nat) (bytes : List Byte) (e : DeviceId) :
    deviceState (writeBytes r column bytes s) e = deviceState s e := rfl

@[simp] theorem applyDecay_deviceState (r : Row) (decay : Decay) (e : DeviceId) :
    deviceState (applyDecay r decay s) e = deviceState s e := rfl

@[simp] theorem startSliceTimer_deviceState (e : DeviceId) :
    deviceState (startSliceTimer s) e = deviceState s e := rfl

@[simp] theorem overrun_deviceState (e : DeviceId) :
    deviceState (overrun s) e = deviceState s e := rfl

@[simp] theorem appendDue_deviceState (row : Row) (stamp : Nat) (e : DeviceId) :
    deviceState (appendDue row stamp s) e = deviceState s e := rfl

@[simp] theorem appendCompletion_deviceState (c : Completion) (e : DeviceId) :
    deviceState (appendCompletion c s) e = deviceState s e := rfl

@[simp] theorem freePort_deviceState (e : DeviceId) :
    deviceState (freePort s) e = deviceState s e := rfl

@[simp] theorem occupyPort_deviceState (op : PortOperation) (e : DeviceId) :
    deviceState (occupyPort op s) e = deviceState s e := rfl

end Sys2Proof.Machine
end

