-- ==== Sys2Proof/Laws/Store.lean ====
section
/-! SUPPORT. Laws of the two containers: four like things by number, and sparse tables. -/

namespace Sys2Proof.Machine

open Sys2Proof

variable {α : Type}

/-! ### Four like things -/

@[simp] theorem Quad.get_set_same (q : Quad α) (i : Fin 4) (a : α) : (q.set i a).get i = a := by
  fin_cases i <;> rfl

theorem Quad.get_set (q : Quad α) (i j : Fin 4) (a : α) : (q.set i a).get j = if j = i then a else q.get j := by
  fin_cases i <;> fin_cases j <;> rfl

@[simp] theorem Quad.set_get (q : Quad α) (i : Fin 4) : q.set i (q.get i) = q := by
  fin_cases i <;> rfl

@[simp] theorem Quad.set_set (q : Quad α) (i : Fin 4) (a b : α) : (q.set i a).set i b = q.set i b := by
  fin_cases i <;> rfl

@[simp] theorem Quad.get_all (a : α) (i : Fin 4) : (Quad.all a).get i = a := by
  fin_cases i <;> rfl

@[ext] theorem Quad.ext_get {p q : Quad α} (h : ∀ i, p.get i = q.get i) : p = q := by
  have h0 := h 0
  have h1 := h 1
  have h2 := h 2
  have h3 := h 3
  cases p
  cases q
  simp_all [Quad.get]

/-! ### Reading a sparse table after an update -/

@[simp] theorem Sparse.find_nil (k : Nat) : Sparse.find k ([] : List (Nat × α)) = none := rfl

theorem Sparse.find_insert (j k : Nat) (v : α) (t : List (Nat × α)) :
    Sparse.find j (Sparse.insert k v t) = if j = k then some v else Sparse.find j t := by
  induction t with
  | nil => simp [Sparse.insert, Sparse.find]
  | cons p rest ih =>
    obtain ⟨l, w⟩ := p
    simp only [Sparse.insert]
    split_ifs with h1 h2 <;> simp only [Sparse.find, ih] <;> split_ifs <;> simp_all

@[simp] theorem Sparse.find_insert_same (k : Nat) (v : α) (t : List (Nat × α)) :
    Sparse.find k (Sparse.insert k v t) = some v := by
  simp [Sparse.find_insert]

theorem Sparse.find_erase (j k : Nat) (t : List (Nat × α)) :
    Sparse.find j (Sparse.erase k t) = if j = k then none else Sparse.find j t := by
  unfold Sparse.erase
  induction t with
  | nil => simp
  | cons p rest ih =>
    obtain ⟨l, w⟩ := p
    by_cases h : l = k
    · subst h
      rw [List.filter_cons_of_neg (by simp), ih]
      simp only [Sparse.find]
      split_ifs <;> simp_all
    · rw [List.filter_cons_of_pos (by simpa using h)]
      simp only [Sparse.find, ih]
      split_ifs <;> simp_all

@[simp] theorem Sparse.find_erase_same (k : Nat) (t : List (Nat × α)) : Sparse.find k (Sparse.erase k t) = none := by
  simp [Sparse.find_erase]

/-- What a table lists at a key is one of its entries. -/
theorem Sparse.mem_of_find {k : Nat} {v : α} {t : List (Nat × α)} (h : Sparse.find k t = some v) : (k, v) ∈ t := by
  induction t with
  | nil => simp at h
  | cons p rest ih =>
    obtain ⟨l, w⟩ := p
    simp only [Sparse.find] at h
    split_ifs at h with e
    · cases h
      simp [e]
    · exact List.mem_cons_of_mem _ (ih h)

/-- In canonical form every entry is what the table lists at its key. -/
theorem Sparse.find_of_mem {k : Nat} {v : α} {t : List (Nat × α)} (h : Sparse.rising t) (m : (k, v) ∈ t) :
    Sparse.find k t = some v := by
  induction t with
  | nil => simp at m
  | cons p rest ih =>
    obtain ⟨l, w⟩ := p
    rw [Sparse.rising, List.pairwise_cons] at h
    rcases List.mem_cons.mp m with e | m
    · cases e
      simp [Sparse.find]
    · have := h.1 _ m
      simp only [Sparse.find]
      rw [if_neg (by simp at this; omega)]
      exact ih h.2 m

theorem Sparse.find_eq_some_iff {k : Nat} {v : α} {t : List (Nat × α)} (h : Sparse.rising t) :
    Sparse.find k t = some v ↔ (k, v) ∈ t :=
  ⟨Sparse.mem_of_find, Sparse.find_of_mem h⟩

/-- Two tables in canonical form that read alike at every key are one table. -/
theorem Sparse.ext_find {t u : List (Nat × α)} (ht : Sparse.rising t) (hu : Sparse.rising u)
    (h : ∀ k, Sparse.find k t = Sparse.find k u) : t = u := by
  have key : ∀ p : Nat × α, p ∈ t ↔ p ∈ u := fun p => by
    rw [← Sparse.find_eq_some_iff (k := p.1) (v := p.2) ht, ← Sparse.find_eq_some_iff (k := p.1) (v := p.2) hu, h]
  have nt : t.Nodup := ht.imp (fun h e => by simp [e] at h)
  have nu : u.Nodup := hu.imp (fun h e => by simp [e] at h)
  refine List.Perm.eq_of_pairwise (le := fun p q : Nat × α => p.1 < q.1) ?_ ht hu ((List.perm_ext_iff_of_nodup nt nu).mpr key)
  intro a b _ _ h1 h2
  omega

/-! ### The canonical form is kept -/

theorem Sparse.mem_insert {k : Nat} {v : α} {t : List (Nat × α)} {p : Nat × α} (h : p ∈ Sparse.insert k v t) :
    p = (k, v) ∨ p ∈ t := by
  induction t with
  | nil => simpa [Sparse.insert] using h
  | cons q rest ih =>
    simp only [Sparse.insert] at h
    split_ifs at h
    · simpa using h
    · rcases List.mem_cons.mp h with h | h
      · exact .inl h
      · exact .inr (List.mem_cons_of_mem _ h)
    · rcases List.mem_cons.mp h with h | h
      · exact .inr (by simp [h])
      · exact (ih h).imp id (List.mem_cons_of_mem _)

theorem Sparse.rising_insert {k : Nat} (v : α) {t : List (Nat × α)} (h : Sparse.rising t) :
    Sparse.rising (Sparse.insert k v t) := by
  induction t with
  | nil => simp [Sparse.insert]
  | cons q rest ih =>
    have h' := List.pairwise_cons.mp h
    simp only [Sparse.insert]
    split_ifs with h1 h2
    · refine List.pairwise_cons.mpr ⟨fun p m => ?_, h⟩
      rcases List.mem_cons.mp m with rfl | m
      · exact h1
      · exact lt_trans h1 (h'.1 p m)
    · exact List.pairwise_cons.mpr ⟨fun p m => by have := h'.1 p m; simp at this ⊢; omega, h'.2⟩
    · refine List.pairwise_cons.mpr ⟨fun p m => ?_, ih h'.2⟩
      rcases Sparse.mem_insert m with rfl | m
      · show q.1 < k
        omega
      · exact h'.1 p m

theorem Sparse.mem_erase {k : Nat} {t : List (Nat × α)} {p : Nat × α} : p ∈ Sparse.erase k t ↔ p ∈ t ∧ p.1 ≠ k := by
  simp [Sparse.erase]

theorem Sparse.rising_erase (k : Nat) {t : List (Nat × α)} (h : Sparse.rising t) : Sparse.rising (Sparse.erase k t) :=
  List.Pairwise.filter _ h

end Sys2Proof.Machine
end

