-- ==== Sys2Proof/Laws/Memory.lean ====
section
/-! SUPPORT. Laws of the array's bytes: distinct bytes have distinct addresses, a read after a write, and that every memory
operation keeps the canonical form. -/

namespace Sys2Proof.Machine

open Sys2Proof

variable (s : State)

/-! ### Addresses -/

theorem rowKey_lt (r : Row) : rowKey r < 4096 := by
  have := r.device.isLt
  have := r.number.isLt
  unfold rowKey
  omega

/-- A row is known by its key (R36). -/
@[simp] theorem rowKey_inj {r q : Row} : rowKey r = rowKey q ↔ r = q := by
  constructor
  · intro h
    obtain ⟨d, n⟩ := r
    obtain ⟨e, m⟩ := q
    have := n.isLt
    have := m.isLt
    simp only [rowKey] at h
    simp only [Row.mk.injEq]
    constructor <;> apply Fin.ext <;> omega
  · rintro rfl
    rfl

/-- A byte of the array is known by its address, columns lying within a row (R2). -/
theorem byteAddress_inj {r q : Row} {c e : Nat} (hc : c < 256) (he : e < 256) :
    byteAddress r c = byteAddress q e ↔ r = q ∧ c = e := by
  unfold byteAddress
  constructor
  · intro h
    exact ⟨rowKey_inj.mp (by omega), by omega⟩
  · rintro ⟨rfl, rfl⟩
    rfl

theorem byteAddress_lt (r : Row) {c : Nat} (hc : c < 256) : byteAddress r c < Config.arrayBytes := by
  have := rowKey_lt r
  unfold byteAddress Config.arrayBytes
  omega

/-! ### Reads after writes -/

/-- What a run of stored bytes leaves at each address. -/
theorem find_writeBytes (k a : Nat) (bytes : List Byte) (m : List Host.Cell) :
    Sparse.find k (Memory.writeBytes a bytes m) =
      if a ≤ k ∧ k < a + bytes.length then bytes[k - a]? else Sparse.find k m := by
  induction bytes generalizing a m with
  | nil =>
    rw [if_neg (by rw [List.length_nil]; omega)]
    rfl
  | cons b rest ih =>
    simp only [Memory.writeBytes, ih, Sparse.find_insert, List.length_cons]
    by_cases h : k = a
    · subst h
      simp
    · by_cases h2 : a + 1 ≤ k ∧ k < a + 1 + rest.length
      · rw [if_pos h2, if_pos (by omega)]
        have : k - a = (k - (a + 1)) + 1 := by omega
        rw [this, List.getElem?_cons_succ]
      · rw [if_neg h2, if_neg h, if_neg (by omega)]

/-- A byte of a row after bytes have been written to a row from a column on (R8). -/
theorem readByte_writeBytes (r q : Row) (column : Nat) (bytes : List Byte) {c : Nat} (hc : c < 256) :
    readByte (writeBytes r column bytes s) q c =
      if q = r ∧ column ≤ c ∧ c < column + bytes.length then bytes.getD (c - column) 0 else readByte s q c := by
  unfold readByte writeBytes
  simp only [find_writeBytes, Config.columnsPerRow, List.length_take]
  have hb : ∀ x : Row, ∀ n, byteAddress x n = rowKey x * 256 + n := fun _ _ => rfl
  have key : (byteAddress r column ≤ byteAddress q c ∧
      byteAddress q c < byteAddress r column + min (256 - column) bytes.length) ↔
      (q = r ∧ column ≤ c ∧ c < column + bytes.length) := by
    simp only [hb]
    constructor
    · intro h
      exact ⟨rowKey_inj.mp (by omega), by omega, by omega⟩
    · rintro ⟨rfl, h⟩
      omega
  by_cases h : q = r ∧ column ≤ c ∧ c < column + bytes.length
  · rw [if_pos (key.mpr h), if_pos h]
    obtain ⟨rfl, h1, h2⟩ := h
    have e : byteAddress q c - byteAddress q column = c - column := by
      simp only [hb]
      omega
    rw [e, List.getElem?_take_of_lt (by omega), List.getD_eq_getElem?_getD,
      List.getElem?_eq_getElem (show c - column < bytes.length by omega)]
    rfl
  · rw [if_neg (fun h' => h (key.mp h')), if_neg h]

/-- What decayed cells leave at each address: the last entry for it. -/
theorem find_decay (k : Nat) (r : Row) (decay : Decay) (m : List Host.Cell) :
    Sparse.find k (decay.foldl (fun m cell => Sparse.insert (byteAddress r cell.1.val) cell.2 m) m) =
      match decay.reverse.find? (fun cell => byteAddress r cell.1.val == k) with
      | some cell => some cell.2
      | none => Sparse.find k m := by
  induction decay generalizing m with
  | nil => rfl
  | cons p rest ih =>
    rw [List.foldl_cons, ih, List.reverse_cons, List.find?_append]
    cases h : rest.reverse.find? (fun cell => byteAddress r cell.1.val == k) with
    | some q => rfl
    | none =>
      simp only [Option.none_or, Sparse.find_insert, List.find?_cons]
      by_cases e : k = byteAddress r p.1.val
      · subst e
        simp
      · rw [if_neg e, beq_false_of_ne (Ne.symm e)]
        rfl

theorem find?_reverse_of_nodup {α β : Type} [DecidableEq α] {l : List (α × β)} (h : (l.map Prod.fst).Nodup) (a : α) :
    l.reverse.find? (fun p => p.1 == a) = l.find? (fun p => p.1 == a) := by
  induction l with
  | nil => rfl
  | cons p rest ih =>
    rw [List.map_cons, List.nodup_cons] at h
    rw [List.reverse_cons, List.find?_append, ih h.2, List.find?_cons]
    by_cases e : p.1 = a
    · subst e
      rw [List.find?_eq_none.mpr, Option.none_or]
      · simp
      · intro q m
        simp only [beq_iff_eq]
        intro e
        exact h.1 (List.mem_map.mpr ⟨q, m, e⟩)
    · rw [List.find?_cons, beq_false_of_ne e]
      exact Option.or_none

/-- A byte of a row after cells of a row have been found decayed (R11). -/
theorem readByte_applyDecay (r q : Row) (decay : Decay) (h : decayWellFormed decay = true) (c : Column) :
    readByte (applyDecay r decay s) q c.val =
      if q = r then ((decay.find? (fun cell => cell.1 == c)).map Prod.snd).getD (readByte s q c.val)
      else readByte s q c.val := by
  have e : ∀ cell : Column × Byte, (byteAddress r cell.1.val == byteAddress q c.val) = (decide (q = r) && cell.1 == c) := by
    intro cell
    rw [Bool.eq_iff_iff]
    simp only [beq_iff_eq, Bool.and_eq_true, decide_eq_true_eq, byteAddress_inj cell.1.isLt c.isLt, Fin.ext_iff]
    tauto
  unfold readByte applyDecay
  simp only [find_decay, e]
  by_cases h2 : q = r
  · subst h2
    have n : (decay.map Prod.fst).Nodup := by simpa [decayWellFormed] using h
    simp only [decide_true, Bool.true_and, find?_reverse_of_nodup n, if_true]
    cases decay.find? (fun cell => cell.1 == c) <;> rfl
  · have : decay.reverse.find? (fun cell => decide (q = r) && cell.1 == c) = none := by simp [h2]
    rw [this, if_neg h2]

/-- Reading a byte after an update that keeps the array's bytes and the power cycle. -/
theorem readByte_congr {s t : State} (ha : t.array = s.array) (hp : t.powerCycle = s.powerCycle) (r : Row) (c : Nat) :
    readByte t r c = readByte s r c := by
  simp [readByte, ha, hp]

@[simp] theorem length_readBytes (r : Row) (column n : Nat) : (readBytes s r column n).length = n := by
  simp [readBytes]

theorem getD_readBytes (r : Row) (column : Nat) {n i : Nat} (h : i < n) :
    (readBytes s r column n).getD i 0 = readByte s r (column + i) := by
  simp [readBytes, h]

/-! ### The canonical form -/

/-- Storing one byte keeps the canonical form. -/
theorem Memory.wf_insert {m : List Host.Cell} (h : Memory.wf m) {k : Nat} (hk : k < Config.arrayBytes) (b : Byte) :
    Memory.wf (Sparse.insert k b m) :=
  ⟨Sparse.rising_insert b h.1, fun c hc => by
    rcases Sparse.mem_insert hc with rfl | hc
    · exact hk
    · exact h.2 c hc⟩

theorem Memory.wf_writeBytes {m : List Host.Cell} (h : Memory.wf m) (a : Nat) (bytes : List Byte)
    (ha : a + bytes.length ≤ Config.arrayBytes) : Memory.wf (Memory.writeBytes a bytes m) := by
  induction bytes generalizing a m with
  | nil => exact h
  | cons b rest ih =>
    rw [List.length_cons] at ha
    exact ih (Memory.wf_insert h (by omega) b) (a + 1) (by omega)

/-- Writing bytes to a row keeps the canonical form (R8). -/
theorem writeBytes_wf {s : State} (h : Memory.wf s.array) (r : Row) (column : Nat) (bytes : List Byte) :
    Memory.wf (writeBytes r column bytes s).array := by
  rcases Nat.lt_or_ge column 256 with hc | hc
  · refine Memory.wf_writeBytes h _ _ ?_
    have := rowKey_lt r
    simp only [byteAddress, Config.columnsPerRow, Config.arrayBytes, List.length_take]
    omega
  · have e : bytes.take (Config.columnsPerRow - column) = [] := by
      rw [List.take_eq_nil_iff]
      exact .inl (by unfold Config.columnsPerRow; omega)
    show Memory.wf (Memory.writeBytes _ (bytes.take _) _)
    rw [e]
    exact h

/-- Finding cells decayed keeps the canonical form (R11). -/
theorem applyDecay_wf {s : State} (h : Memory.wf s.array) (r : Row) (decay : Decay) :
    Memory.wf (applyDecay r decay s).array := by
  show Memory.wf (decay.foldl _ _)
  generalize s.array = m at h ⊢
  induction decay generalizing m with
  | nil => exact h
  | cons p rest ih => exact ih _ (Memory.wf_insert h (byteAddress_lt r p.1.isLt) _)

/-- The array lists nothing after reset. -/
theorem reset_array_wf : Memory.wf State.reset.array := by
  simp [State.reset, Memory.wf]

/-- The array lists nothing after a release of RSTIN# (R18). -/
theorem releaseReset_array (straps : BitVec 2) : (releaseReset straps s).array = [] := rfl

end Sys2Proof.Machine
end

