-- ==== Sys2Proof/Laws/Tables.lean ====
section
/-! SUPPORT. Reading records, redirect entries, contexts and devices back, and what each operation on the due queue can do. -/

namespace Sys2Proof.Machine

open Sys2Proof

variable (s : State)

/-! ### Read back -/

/-- A record after a record has been set (R37). -/
theorem recordOf_setRecord (r q : Row) (v : Record) :
    recordOf (setRecord r v s) q = if q = r then v else recordOf s q := by
  unfold recordOf setRecord
  by_cases h : v = powerOnRecord r
  · simp only [h, if_true, Sparse.find_erase, rowKey_inj]
    split_ifs with e
    · subst e
      rfl
    · rfl
  · simp only [if_neg h, Sparse.find_insert, rowKey_inj]
    split_ifs <;> rfl

@[simp] theorem recordOf_setRecord_same (r : Row) (v : Record) : recordOf (setRecord r v s) r = v := by
  simp [recordOf_setRecord]

/-- Reading a record after an update of any other field. -/
theorem recordOf_congr {s t : State} (h : t.records = s.records) (r : Row) : recordOf t r = recordOf s r := by
  simp [recordOf, h]

theorem contextOf_setContext (k m : ContextId) (c : ProbeContext) :
    contextOf (setContext k c s) m = if m = k then c else contextOf s m := by
  simp [contextOf, Quad.get_set]

@[simp] theorem contextOf_setContext_same (k : ContextId) (c : ProbeContext) : contextOf (setContext k c s) k = c := by
  simp [contextOf_setContext]

@[simp] theorem setContext_contextOf (k : ContextId) : setContext k (contextOf s k) s = s := by
  simp [setContext, contextOf]

@[simp] theorem setContext_setContext (k : ContextId) (c e : ProbeContext) :
    setContext k c (setContext k e s) = setContext k c s := by
  simp [setContext]

theorem contextOf_congr {s t : State} (h : t.probes.contexts = s.probes.contexts) (k : ContextId) :
    contextOf t k = contextOf s k := by
  simp [contextOf, h]

theorem deviceState_setDevice (d e : DeviceId) (v : DeviceState) :
    deviceState (setDevice d v s) e = if e = d then v else deviceState s e := by
  simp [deviceState, Quad.get_set]

@[simp] theorem deviceState_setDevice_same (d : DeviceId) (v : DeviceState) : deviceState (setDevice d v s) d = v := by
  simp [deviceState_setDevice]

theorem deviceState_congr {s t : State} (h : t.port.devices = s.port.devices) (d : DeviceId) :
    deviceState t d = deviceState s d := by
  simp [deviceState, h]

theorem deviceState_closeDevice (d e : DeviceId) :
    deviceState (closeDevice d s) e = if e = d then { deviceState s e with openRow := none } else deviceState s e := by
  unfold closeDevice
  rw [deviceState_setDevice]
  split_ifs with h
  · rw [h]
  · rfl

theorem deviceState_stopOpenRowTimer (d e : DeviceId) :
    deviceState (stopOpenRowTimer d s) e =
      if e = d then { deviceState s e with timer := .stopped, closeClaim := false } else deviceState s e := by
  unfold stopOpenRowTimer
  rw [deviceState_setDevice]
  split_ifs with h
  · rw [h]
  · rfl

theorem redirectAt_setRedirect (i j : ReservedIndex) (e : RedirectEntry) :
    redirectAt (setRedirect i e s) j = if j = i then some e else redirectAt s j := by
  simp [redirectAt, Sparse.find_insert, Fin.ext_iff]

theorem redirectAt_removeRedirect (i j : ReservedIndex) :
    redirectAt (removeRedirect i s) j = if j = i then none else redirectAt s j := by
  simp [redirectAt, Sparse.find_erase, Fin.ext_iff]

theorem redirectAt_congr {s t : State} (h : t.redirects = s.redirects) (i : ReservedIndex) :
    redirectAt t i = redirectAt s i := by
  simp [redirectAt, h]

/-- A change of an entry's state reaches that entry alone, and creates none. -/
theorem redirectAt_changeRedirect (i j : ReservedIndex) (state : RedirectState) (owner : Owner) :
    redirectAt (changeRedirect i state owner s) j =
      if j = i then (redirectAt s i).map (fun e => { e with state := state, owner := owner }) else redirectAt s j := by
  unfold changeRedirect
  cases h : redirectAt s i with
  | none =>
    split_ifs with e
    · rw [e]
      exact h
    · rfl
  | some e => simp only [redirectAt_setRedirect, Option.map_some]

/-- Whether it finds an entry or not, a change of an entry's state is an update of the redirect table alone. -/
theorem changeRedirect_eq (i : ReservedIndex) (state : RedirectState) (owner : Owner) :
    changeRedirect i state owner s = { s with redirects := (changeRedirect i state owner s).redirects } := by
  unfold changeRedirect
  cases redirectAt s i <;> rfl

/-! ### Canonical forms -/

theorem setRecord_rising {s : State} (h : Sparse.rising s.records) (r : Row) (v : Record) :
    Sparse.rising (setRecord r v s).records := by
  unfold setRecord
  split_ifs
  · exact Sparse.rising_erase _ h
  · exact Sparse.rising_insert _ h

/-- No record equal to its power-on value comes to be listed. -/
theorem setRecord_unlisted {s : State} (h : ∀ q : Row, Sparse.find (rowKey q) s.records ≠ some (powerOnRecord q))
    (r : Row) (v : Record) (q : Row) : Sparse.find (rowKey q) (setRecord r v s).records ≠ some (powerOnRecord q) := by
  unfold setRecord
  by_cases e : v = powerOnRecord r
  · simp only [e, if_true, Sparse.find_erase, rowKey_inj]
    split_ifs
    · simp
    · exact h q
  · simp only [if_neg e, Sparse.find_insert, rowKey_inj]
    split_ifs with e2
    · subst e2
      simpa using e
    · exact h q

theorem changeRedirect_rising {s : State} (h : Sparse.rising s.redirects) (i : ReservedIndex) (state : RedirectState)
    (owner : Owner) : Sparse.rising (changeRedirect i state owner s).redirects := by
  unfold changeRedirect
  cases redirectAt s i with
  | none => exact h
  | some e => exact Sparse.rising_insert _ h

/-! ### The due queue -/

/-- The test for the end of FORCED changes FORCED alone, and only from set to clear (R73). -/
theorem testForced_eq : testForced s = { s with
    scheduler := { s.scheduler with forced := s.scheduler.forced && !forcedMayClear s } } := by
  unfold testForced
  by_cases h : s.scheduler.forced && forcedMayClear s
  · rw [if_pos h]
    simp_all
  · rw [if_neg h]
    cases h1 : s.scheduler.forced <;> cases h2 : forcedMayClear s <;> simp_all
    all_goals cases s with | _ _ _ _ _ _ _ scheduler => cases scheduler; simp_all

/-- A resumed scan differs in its cursor's pause alone (R67). -/
theorem resumeScan_eq : resumeScan s = { s with
    scheduler := { s.scheduler with
      cursor := if s.scheduler.due.length < 512
        then s.scheduler.cursor.map (fun c => { c with paused := false }) else s.scheduler.cursor } } := by
  unfold resumeScan Config.dueEntries
  split_ifs <;> rfl

/-- All that a departure from the due queue can do (R70): the row's entries leave, its queued flag is cleared, a paused scan may
resume and FORCED may clear. -/
theorem departDue_eq (r : Row) : ∃ cursor forced, departDue r s = { s with
    records := (setRecord r { recordOf s r with queued := false } s).records
    scheduler := { s.scheduler with
      due := s.scheduler.due.filter (fun e => decide (e.row ≠ r)), cursor := cursor, forced := forced } } ∧
    (s.scheduler.forced = false → forced = false) ∧
    (cursor = s.scheduler.cursor ∨ cursor = s.scheduler.cursor.map (fun c => { c with paused := false })) := by
  refine ⟨(departDue r s).scheduler.cursor, (departDue r s).scheduler.forced, ?_, ?_, ?_⟩
  · unfold departDue
    rw [testForced_eq, resumeScan_eq]
    rfl
  · intro h
    unfold departDue
    rw [testForced_eq, resumeScan_eq]
    simp [h]
  · unfold departDue
    rw [testForced_eq, resumeScan_eq]
    by_cases h : (s.scheduler.due.filter (fun e => decide (e.row ≠ r))).length < 512
    · exact .inr (if_pos h)
    · exact .inl (if_neg h)

@[simp] theorem departDue_due (r : Row) :
    (departDue r s).scheduler.due = s.scheduler.due.filter (fun e => decide (e.row ≠ r)) := by
  obtain ⟨_, _, h, _⟩ := departDue_eq s r
  rw [h]

theorem recordOf_departDue (r q : Row) :
    recordOf (departDue r s) q = if q = r then { recordOf s r with queued := false } else recordOf s q := by
  obtain ⟨_, _, h, _⟩ := departDue_eq s r
  rw [h, ← recordOf_setRecord]
  rfl

/-- All that the departure of a row that may have an entry can do (R31, R109, R123, R174). -/
theorem departIfQueued_eq (r : Row) : ∃ records due cursor forced, departIfQueued r s = { s with
    records := records, scheduler := { s.scheduler with due := due, cursor := cursor, forced := forced } } ∧
    (s.scheduler.forced = false → forced = false) := by
  unfold departIfQueued
  split_ifs
  · obtain ⟨_, _, h, h2, _⟩ := departDue_eq s r
    exact ⟨_, _, _, _, h, h2⟩
  · exact ⟨_, _, _, _, rfl, id⟩

theorem recordOf_departIfQueued (r q : Row) :
    recordOf (departIfQueued r s) q = if q = r then { recordOf s r with queued := false } else recordOf s q := by
  unfold departIfQueued
  by_cases h : (recordOf s r).queued
  · rw [if_pos h, recordOf_departDue]
  · rw [if_neg h]
    split_ifs with e
    · subst e
      cases hr : recordOf s q
      simp_all
    · rfl

/-- Where the queued flags are right (R69), a departure leaves the entries of the other rows, in their order. -/
theorem departIfQueued_due (r : Row) (h : (recordOf s r).queued = true ↔ r ∈ s.scheduler.due.map DueEntry.row) :
    (departIfQueued r s).scheduler.due = s.scheduler.due.filter (fun e => decide (e.row ≠ r)) := by
  unfold departIfQueued
  by_cases hq : (recordOf s r).queued
  · rw [if_pos hq, departDue_due]
  · rw [if_neg hq]
    refine (List.filter_eq_self.mpr fun e he => ?_).symm
    simp only [decide_eq_true_eq]
    rintro rfl
    exact hq (h.mpr (List.mem_map.mpr ⟨e, he, rfl⟩))

end Sys2Proof.Machine
end

