-- ==== Sys2Proof/Laws/Grant.lean ====
section
/-! SUPPORT. What a grant can do, whichever claim it serves, and when the arbiter makes one. -/

namespace Sys2Proof.Machine

open Sys2Proof

variable (s : State)

/-- The parts of the state a grant may change (R26): the port, the records' queued flags and the due queue with its dependents,
the access record, the copy engine's state and the contexts' LFSR registers. -/
def withGrant (port : ArrayPort) (records : List (Nat × Record)) (due : List DueEntry) (cursor : Option ScanCursor)
    (forced refreshing : Bool) (access : Option AccessRecord) (engine : CopyEngineState) (contexts : Quad ProbeContext) :
    State :=
  { s with
    port := port, records := records
    scheduler := { s.scheduler with due := due, cursor := cursor, forced := forced, refreshing := refreshing }
    requests := { s.requests with access := access }
    copy := { s.copy with engine := engine }
    probes := { s.probes with contexts := contexts } }

/-- A state is another one but for what a grant may change. -/
def GrantOf (s t : State) : Prop :=
  ∃ port records due cursor forced refreshing access engine contexts,
    t = withGrant s port records due cursor forced refreshing access engine contexts

theorem GrantOf.refl : GrantOf s s :=
  ⟨s.port, s.records, s.scheduler.due, s.scheduler.cursor, s.scheduler.forced, s.scheduler.refreshing,
    s.requests.access, s.copy.engine, s.probes.contexts, rfl⟩

theorem GrantOf.trans {s t u : State} (h1 : GrantOf s t) (h2 : GrantOf t u) : GrantOf s u := by
  obtain ⟨_, _, _, _, _, _, _, _, _, rfl⟩ := h1
  obtain ⟨p, r, d, c, f, g, a, e, x, rfl⟩ := h2
  exact ⟨p, r, d, c, f, g, a, e, x, rfl⟩

theorem setRecord_grantOf (r : Row) (v : Record) : GrantOf s (setRecord r v s) :=
  ⟨s.port, (setRecord r v s).records, s.scheduler.due, s.scheduler.cursor, s.scheduler.forced, s.scheduler.refreshing,
    s.requests.access, s.copy.engine, s.probes.contexts, rfl⟩

theorem departDue_grantOf (r : Row) : GrantOf s (departDue r s) := by
  obtain ⟨c, f, h, -⟩ := departDue_eq s r
  rw [h]
  exact ⟨s.port, _, _, c, f, s.scheduler.refreshing, s.requests.access, s.copy.engine, s.probes.contexts, rfl⟩

theorem departIfQueued_grantOf (r : Row) : GrantOf s (departIfQueued r s) := by
  unfold departIfQueued
  split_ifs
  · exact departDue_grantOf s r
  · exact GrantOf.refl s

theorem setDevice_grantOf (d : DeviceId) (v : DeviceState) : GrantOf s (setDevice d v s) :=
  ⟨(setDevice d v s).port, s.records, s.scheduler.due, s.scheduler.cursor, s.scheduler.forced, s.scheduler.refreshing,
    s.requests.access, s.copy.engine, s.probes.contexts, rfl⟩

theorem foldl_grantOf {β : Type} (f : β → State → State) (h : ∀ b t, GrantOf t (f b t)) (l : List β) :
    GrantOf s (l.foldl (fun t b => f b t) s) := by
  induction l generalizing s with
  | nil => exact GrantOf.refl s
  | cons b rest ih => exact (h b s).trans (ih (f b s))

theorem openRowEffects_grantOf (op : PortOperation) : GrantOf s (openRowEffects op s) := by
  unfold openRowEffects
  split_ifs
  · exact GrantOf.refl s
  · exact foldl_grantOf s _ (fun d t => setDevice_grantOf t d _) _

theorem activationCredit_grantOf (op : PortOperation) : GrantOf s (activationCredit op s) :=
  foldl_grantOf s _ (fun r t => departIfQueued_grantOf t r) _

theorem claimantEffects_grantOf (claim : Claim) : GrantOf s (claimantEffects claim s) := by
  cases claim with
  | close d => exact GrantOf.refl s
  | init => exact GrantOf.refl s
  | refresh u =>
    simp only [claimantEffects, takeRefreshHead]
    split
    · exact GrantOf.refl s
    · refine GrantOf.trans (t := { s with scheduler := { s.scheduler with refreshing := true } }) ?_
        (departDue_grantOf _ _)
      exact ⟨s.port, s.records, s.scheduler.due, s.scheduler.cursor, s.scheduler.forced, true,
        s.requests.access, s.copy.engine, s.probes.contexts, rfl⟩
  | request =>
    simp only [claimantEffects, fillAccessRecord]
    split
    · exact GrantOf.refl s
    · exact ⟨s.port, s.records, s.scheduler.due, s.scheduler.cursor, s.scheduler.forced, s.scheduler.refreshing,
        _, s.copy.engine, s.probes.contexts, rfl⟩
  | copy =>
    exact ⟨s.port, s.records, s.scheduler.due, s.scheduler.cursor, s.scheduler.forced, s.scheduler.refreshing,
      s.requests.access, .copying false, s.probes.contexts, rfl⟩
  | probe k =>
    exact ⟨s.port, s.records, s.scheduler.due, s.scheduler.cursor, s.scheduler.forced, s.scheduler.refreshing,
      s.requests.access, s.copy.engine, _, rfl⟩

/-- A grant changes nothing but what a grant may change. -/
theorem grantClaim_grantOf (claim : Claim) : GrantOf s (grantClaim claim s) := by
  unfold grantClaim
  split
  · exact GrantOf.refl s
  · rename_i op _
    refine (claimantEffects_grantOf s claim).trans ((openRowEffects_grantOf _ op).trans ?_)
    refine GrantOf.trans ?_ (activationCredit_grantOf _ op)
    exact ⟨_, _, _, _, _, _, _, _, _, rfl⟩

/-- The arbiter at an event changes nothing but what a grant may change. -/
theorem arbitrate_grantOf : GrantOf s (arbitrate s) := by
  unfold arbitrate
  split
  · exact GrantOf.refl s
  · split
    · exact GrantOf.refl s
    · exact grantClaim_grantOf s _

/-- All that the arbiter can do at an event (R25): nothing with the port busy, nothing without a claim that may be granted, else
the grant of the chosen claim. -/
theorem arbitrate_cases :
    (s.port.operation.isSome = true ∧ arbitrate s = s) ∨
    (s.port.operation = none ∧ chooseClaim s = none ∧ arbitrate s = s) ∨
    ∃ claim, s.port.operation = none ∧ chooseClaim s = some claim ∧ arbitrate s = grantClaim claim s := by
  unfold arbitrate
  cases hp : s.port.operation with
  | some op => exact .inl ⟨rfl, rfl⟩
  | none =>
    cases hc : chooseClaim s with
    | none => exact .inr (.inl ⟨rfl, rfl, rfl⟩)
    | some claim => exact .inr (.inr ⟨claim, rfl, rfl, rfl⟩)

/-- With the port busy the arbiter does nothing. -/
theorem arbitrate_busy {s : State} {op : PortOperation} (h : s.port.operation = some op) : arbitrate s = s := by
  simp [arbitrate, h]

/-- Without a claim that may be granted the arbiter does nothing. -/
theorem arbitrate_none {s : State} (h : chooseClaim s = none) : arbitrate s = s := by
  unfold arbitrate
  split
  · rfl
  · rw [h]

/-- A claim that is chosen waits and stands in the grant order (R27). -/
theorem chooseClaim_raised {s : State} {claim : Claim} (h : chooseClaim s = some claim) :
    claimRaised s claim = true ∧ claim ∈ grantOrder s :=
  ⟨List.find?_some h, List.mem_of_find?_eq_some h⟩

/-- While RSTIN# is low nothing may be granted (R34). -/
theorem chooseClaim_reset {s : State} (h : s.controller = none) : chooseClaim s = none := by
  refine List.find?_eq_none.mpr fun claim _ => ?_
  unfold claimRaised Claim.arises
  rw [h]
  simp

/-- A claim that waits has a descriptor to hand to the port (R3). -/
theorem descriptor_of_raised {s : State} {claim : Claim} (h : claimRaised s claim = true) :
    ∃ op, descriptor s claim = some op := by
  unfold claimRaised at h
  rw [Bool.and_eq_true] at h
  replace h := h.2
  cases claim with
  | close d => exact ⟨_, rfl⟩
  | init => exact ⟨_, rfl⟩
  | refresh u =>
    simp only [Claim.condition, refreshRaised, Bool.and_eq_true, Bool.not_eq_true', List.isEmpty_eq_false_iff_exists_mem] at h
    obtain ⟨⟨⟨e, he⟩, -⟩, -⟩ := h
    simp only [descriptor]
    cases hd : s.scheduler.due with
    | nil => simp [hd] at he
    | cons a l => exact ⟨_, rfl⟩
  | request =>
    simp only [Claim.condition, requestRaised, headCondition, Bool.and_eq_true] at h
    simp only [descriptor]
    cases hd : s.requests.requests with
    | nil => simp [hd] at h
    | cons a l => exact ⟨_, rfl⟩
  | copy =>
    simp only [Claim.condition, copyRaised] at h
    simp only [descriptor]
    cases hd : s.copy.queue with
    | nil => simp [hd] at h
    | cons a l => exact ⟨_, rfl⟩
  | probe k =>
    simp only [Claim.condition, probeRaised, Bool.and_eq_true, Bool.or_eq_true, beq_iff_eq] at h
    simp only [descriptor]
    rcases h.1.1 with h | h <;> rw [h] <;> exact ⟨_, rfl⟩

@[simp] theorem arbitrate_controller : (arbitrate s).controller = s.controller := by
  obtain ⟨_, _, _, _, _, _, _, _, _, h⟩ := arbitrate_grantOf s
  rw [h]
  rfl

@[simp] theorem arbitrate_deviceCount : (arbitrate s).deviceCount = s.deviceCount := by
  obtain ⟨_, _, _, _, _, _, _, _, _, h⟩ := arbitrate_grantOf s
  rw [h]
  rfl

@[simp] theorem arbitrate_host : (arbitrate s).host = s.host := by
  obtain ⟨_, _, _, _, _, _, _, _, _, h⟩ := arbitrate_grantOf s
  rw [h]
  rfl

@[simp] theorem arbitrate_config : (arbitrate s).config = s.config := by
  obtain ⟨_, _, _, _, _, _, _, _, _, h⟩ := arbitrate_grantOf s
  rw [h]
  rfl

@[simp] theorem arbitrate_redirects : (arbitrate s).redirects = s.redirects := by
  obtain ⟨_, _, _, _, _, _, _, _, _, h⟩ := arbitrate_grantOf s
  rw [h]
  rfl

@[simp] theorem arbitrate_supervisor : (arbitrate s).supervisor = s.supervisor := by
  obtain ⟨_, _, _, _, _, _, _, _, _, h⟩ := arbitrate_grantOf s
  rw [h]
  rfl

@[simp] theorem arbitrate_array : (arbitrate s).array = s.array := by
  obtain ⟨_, _, _, _, _, _, _, _, _, h⟩ := arbitrate_grantOf s
  rw [h]
  rfl

@[simp] theorem arbitrate_powerCycle : (arbitrate s).powerCycle = s.powerCycle := by
  obtain ⟨_, _, _, _, _, _, _, _, _, h⟩ := arbitrate_grantOf s
  rw [h]
  rfl

@[simp] theorem arbitrate_pending : (arbitrate s).pending = s.pending := by
  obtain ⟨_, _, _, _, _, _, _, _, _, h⟩ := arbitrate_grantOf s
  rw [h]
  rfl

@[simp] theorem arbitrate_log : (arbitrate s).probes.log = s.probes.log := by
  obtain ⟨_, _, _, _, _, _, _, _, _, h⟩ := arbitrate_grantOf s
  rw [h]
  rfl

@[simp] theorem arbitrate_waiting : (arbitrate s).probes.waiting = s.probes.waiting := by
  obtain ⟨_, _, _, _, _, _, _, _, _, h⟩ := arbitrate_grantOf s
  rw [h]
  rfl

@[simp] theorem arbitrate_requests : (arbitrate s).requests.requests = s.requests.requests := by
  obtain ⟨_, _, _, _, _, _, _, _, _, h⟩ := arbitrate_grantOf s
  rw [h]
  rfl

@[simp] theorem arbitrate_completions : (arbitrate s).requests.completions = s.requests.completions := by
  obtain ⟨_, _, _, _, _, _, _, _, _, h⟩ := arbitrate_grantOf s
  rw [h]
  rfl

@[simp] theorem arbitrate_copyQueue : (arbitrate s).copy.queue = s.copy.queue := by
  obtain ⟨_, _, _, _, _, _, _, _, _, h⟩ := arbitrate_grantOf s
  rw [h]
  rfl

@[simp] theorem arbitrate_retire : (arbitrate s).copy.retire = s.copy.retire := by
  obtain ⟨_, _, _, _, _, _, _, _, _, h⟩ := arbitrate_grantOf s
  rw [h]
  rfl

theorem readByte_arbitrate (r : Row) (c : Nat) : readByte (arbitrate s) r c = readByte s r c :=
  readByte_congr (arbitrate_array s) (arbitrate_powerCycle s) r c

end Sys2Proof.Machine
end

