-- ==== Sys2Proof/Laws/Requests.lean ====
section
/-! SUPPORT. What the request engine's operations can do (chapter 5). -/

namespace Sys2Proof.Machine

open Sys2Proof

variable (s : State)

/-- Raising a flag twice is raising it once. -/
theorem raiseEvent_raiseEvent (flag : EventFlag) : raiseEvent flag (raiseEvent flag s) = raiseEvent flag s := by
  have e : s.host.events ||| flag.word ||| flag.word = s.host.events ||| flag.word := by
    rw [BitVec.or_assoc, BitVec.or_self]
  simp only [raiseEvent, HostInterface.evaluate, e]

/-- All that the completion of failed heads can do (R84, R85): a run of heads, each failing a check, leaves the RQ, and their
completions join the CQ behind those it holds; it stops at a head that passes its checks, at the end of the RQ, or at a full
CQ. -/
theorem endFailedHeads_spec (l : List Request) (h : s.requests.requests = l) :
    ∃ ended : List (Request × CompletionStatus),
      (∀ p ∈ ended, executionCheck s.deviceCount p.1 = some p.2) ∧
      l = ended.map Prod.fst ++ (endFailedHeads l s).requests.requests ∧
      (endFailedHeads l s).requests.completions =
        s.requests.completions ++ ended.map (fun p => failedCompletion p.1 p.2) ∧
      (endFailedHeads l s).host = (if ended = [] then s.host else (raiseEvent .cqReady s).host) ∧
      endFailedHeads l s = { s with
        host := (endFailedHeads l s).host
        requests := { s.requests with
          requests := (endFailedHeads l s).requests.requests
          completions := (endFailedHeads l s).requests.completions
          cursor := (endFailedHeads l s).requests.cursor } } ∧
      (∀ q rest, (endFailedHeads l s).requests.requests = q :: rest →
        (executionCheck s.deviceCount q).isSome = true → completionRoom (endFailedHeads l s) = false) := by
  induction l generalizing s with
  | nil => exact ⟨[], by simp, by simp [endFailedHeads, h], by simp [endFailedHeads], by simp [endFailedHeads],
      rfl, by simp [endFailedHeads, h]⟩
  | cons q rest ih =>
    unfold endFailedHeads
    cases hc : executionCheck s.deviceCount q with
    | none => exact ⟨[], by simp, by simp [h], by simp, by simp, rfl, by
        intro q' rest' e e2
        rw [h] at e
        cases e
        simp [hc] at e2⟩
    | some status =>
      dsimp only
      by_cases hr : completionRoom s
      · rw [if_pos hr]
        set t := appendCompletion (failedCompletion q status)
          { s with requests := { s.requests with requests := rest } } with ht
        obtain ⟨ended, h1, h2, h3, h4, h5, h6⟩ := ih t rfl
        refine ⟨(q, status) :: ended, ?_, ?_, ?_, ?_, ?_, h6⟩
        · intro p hp
          rcases List.mem_cons.mp hp with rfl | hp
          · exact hc
          · exact h1 p hp
        · simpa using h2
        · rw [h3]
          simp [ht]
        · rw [h4, if_neg (List.cons_ne_nil _ _)]
          have e : (raiseEvent .cqReady t).host = (raiseEvent .cqReady s).host := by
            show (raiseEvent .cqReady (raiseEvent .cqReady s)).host = _
            rw [raiseEvent_raiseEvent]
          by_cases he : ended = []
          · rw [if_pos he]
            rfl
          · rw [if_neg he, e]
        · rw [h5]
          rfl
      · rw [if_neg hr]
        exact ⟨[], by simp, by simp [h], by simp, by simp, rfl, by
          intro q' rest' _ _
          simpa using hr⟩

/-- The execution checks are those of R84 in their order. -/
theorem executionCheck_eq_requestFailure (deviceCount : Nat) (q : Request) :
    executionCheck deviceCount q = requestFailure deviceCount q := by
  unfold executionCheck requestFailure
  cases hk : q.kind <;> simp [RequestKind.limit, Config.columnsPerRow, isReservedRow]

/-- Raising an event flag is joining its word to the flags. -/
theorem raiseEvent_eq_withEvents (flag : EventFlag) : raiseEvent flag s = withEvents flag.word s := rfl

/-- The completions of a queue whose head fails, with room for one more. -/
theorem failedCompletions_cons {n room : Nat} {q : Request} {rest : List Request} {status : CompletionStatus}
    (h : requestFailure n q = some status) :
    failedCompletions n (room + 1) (q :: rest) = failedCompletion q status :: failedCompletions n room rest := by
  simp [failedCompletions, failedCompletion, h]

/-- What the completion of failed heads does (R84, R85, R94): as many failing heads as the CQ has room for leave the RQ together,
and the data cursor is 0 if the CQ was empty. -/
theorem endFailedHeads_eq (l : List Request) (h : s.requests.requests = l) :
    let failed := failedCompletions s.deviceCount (16 - s.requests.completions.length) l
    endFailedHeads l s = if failed = [] then s else withEvents 0x004#10 { s with
      requests := { s.requests with
        requests := l.drop failed.length
        completions := s.requests.completions ++ failed
        cursor := if s.requests.completions = [] then 0 else s.requests.cursor } } := by
  induction l generalizing s with
  | nil => simp [failedCompletions, endFailedHeads]
  | cons q rest ih =>
    unfold endFailedHeads
    rw [executionCheck_eq_requestFailure]
    cases hc : requestFailure s.deviceCount q with
    | none => simp [failedCompletions, hc]
    | some status =>
      dsimp only
      by_cases hr : completionRoom s
      · have hlt : s.requests.completions.length < 16 := of_decide_eq_true hr
        obtain ⟨n, hn⟩ : ∃ n, 16 - s.requests.completions.length = n + 1 := ⟨_, (Nat.succ_pred (by omega)).symm⟩
        have hn' : 16 - (s.requests.completions.length + 1) = n := by omega
        rw [if_pos hr, ih _ rfl, hn, failedCompletions_cons hc]
        simp only [appendCompletion, raiseEvent_eq_withEvents, withEvents, show EventFlag.cqReady.word = 4#10 from rfl, List.length_append, List.length_cons,
          List.length_nil, Nat.zero_add, hn']
        split_ifs <;> simp_all [BitVec.or_assoc]
      · have hge : 16 - s.requests.completions.length = 0 := by
          have : ¬ s.requests.completions.length < 16 := fun hlt => hr (decide_eq_true hlt)
          omega
        simp [failedCompletions, hge, hr]
/-- A head IN_ACCESS is left alone; any other head is checked (R84, R86). -/
theorem checkHead_eq : checkHead s = if liveAccess s then s else endFailedHeads s.requests.requests s := rfl

/-- All that a check of the head can do but for which heads end: the request and completion queues, the cursor and the event
flags change, nothing else. -/
theorem checkHead_frame : checkHead s = { s with
    host := { s.host with events := (checkHead s).host.events, interrupt := (checkHead s).host.interrupt }
    requests := { s.requests with
      requests := (checkHead s).requests.requests
      completions := (checkHead s).requests.completions
      cursor := (checkHead s).requests.cursor } } := by
  rw [checkHead_eq]
  split_ifs
  · rfl
  · obtain ⟨ended, -, -, -, h4, h5, -⟩ := endFailedHeads_spec s _ rfl
    conv_lhs => rw [h5]
    rw [h4]
    split_ifs <;> rfl

/-- All that the end of the access's request engine part can do, discarded or not. -/
theorem endAccess_frame (data : List Byte) : endAccess data s = { s with
    host := { s.host with
      events := (endAccess data s).host.events, interrupt := (endAccess data s).host.interrupt }
    requests := { s.requests with
      access := (endAccess data s).requests.access
      requests := (endAccess data s).requests.requests
      completions := (endAccess data s).requests.completions
      cursor := (endAccess data s).requests.cursor } } := by
  unfold endAccess
  split
  · rfl
  · dsimp only
    split_ifs
    · rfl
    · unfold endRequest
      split
      · rfl
      · rw [checkHead_frame]
        rfl

/-- No access is on the port once an access has ended. -/
@[simp] theorem endAccess_access (data : List Byte) : (endAccess data s).requests.access = none := by
  unfold endAccess
  split
  · assumption
  · dsimp only
    split_ifs
    · rfl
    · unfold endRequest
      split
      · rfl
      · rw [checkHead_frame]
        rfl

end Sys2Proof.Machine
end

