-- ==== Sys2Proof/Laws/Probes.lean ====
section
/-! SUPPORT. What the operations of the probe engine, the copy engine, the supervisor and the scheduler can change, and what
each of them can do (chapters 4, 6 to 9). -/

namespace Sys2Proof.Machine

open Sys2Proof

variable (s : State)

/-! ### The parts an abort or a log entry may change -/

/-- A state is another one but for the event flags, the redirect table, the copy queue and engine, and the probe engine. -/
def ProbeChange (s t : State) : Prop :=
  ∃ events interrupt redirects queue engine contexts log waiting, t = { s with
    host := { s.host with events := events, interrupt := interrupt }
    redirects := redirects
    copy := { s.copy with queue := queue, engine := engine }
    probes := { contexts := contexts, log := log, waiting := waiting } }

theorem ProbeChange.refl : ProbeChange s s :=
  ⟨s.host.events, s.host.interrupt, s.redirects, s.copy.queue, s.copy.engine, s.probes.contexts, s.probes.log,
    s.probes.waiting, rfl⟩

theorem ProbeChange.trans {s t u : State} (h1 : ProbeChange s t) (h2 : ProbeChange t u) : ProbeChange s u := by
  obtain ⟨_, _, _, _, _, _, _, _, rfl⟩ := h1
  obtain ⟨e, i, r, q, g, c, l, w, rfl⟩ := h2
  exact ⟨e, i, r, q, g, c, l, w, rfl⟩

theorem setContext_probeChange (k : ContextId) (c : ProbeContext) : ProbeChange s (setContext k c s) :=
  ⟨s.host.events, s.host.interrupt, s.redirects, s.copy.queue, s.copy.engine, _, s.probes.log, s.probes.waiting, rfl⟩

theorem raiseEvent_probeChange (flag : EventFlag) : ProbeChange s (raiseEvent flag s) :=
  ⟨_, _, s.redirects, s.copy.queue, s.copy.engine, s.probes.contexts, s.probes.log, s.probes.waiting, rfl⟩

theorem changeRedirect_probeChange (i : ReservedIndex) (state : RedirectState) (owner : Owner) :
    ProbeChange s (changeRedirect i state owner s) := by
  rw [changeRedirect_eq]
  exact ⟨s.host.events, s.host.interrupt, _, s.copy.queue, s.copy.engine, s.probes.contexts, s.probes.log,
    s.probes.waiting, rfl⟩

/-- A log entry's append changes the log, the context and LOG_READY alone (R147, R149). -/
theorem appendLog_eq (k : ContextId) : appendLog k s = raiseEvent .logReady { s with
    probes := { contexts := s.probes.contexts.set k { contextOf s k with state := .idle }
                log := s.probes.log ++ [logEntryOf k (contextOf s k)]
                waiting := s.probes.waiting } } := rfl

theorem appendLog_probeChange (k : ContextId) : ProbeChange s (appendLog k s) :=
  ⟨_, _, s.redirects, s.copy.queue, s.copy.engine, _, _, s.probes.waiting, rfl⟩

/-- All that an entry into DONE can do (R147): with room the context appends its entry and is IDLE, else it joins the tail of the
wait order. -/
theorem enterDone_cases (k : ContextId) (outcome : PendingOutcome) :
    (s.probes.log.length < 8 ∧ enterDone k outcome s =
      appendLog k (setContext k { contextOf s k with state := .done, outcome := some outcome } s)) ∨
    (8 ≤ s.probes.log.length ∧ enterDone k outcome s = { s with
      probes := { contexts := s.probes.contexts.set k { contextOf s k with state := .done, outcome := some outcome }
                  log := s.probes.log
                  waiting := s.probes.waiting ++ [k] } }) := by
  unfold enterDone logRoom Config.logEntries
  by_cases h : s.probes.log.length < 8
  · exact .inl ⟨h, if_pos (decide_eq_true h)⟩
  · exact .inr ⟨by omega, if_neg (fun e => h (of_decide_eq_true e))⟩

theorem enterDone_probeChange (k : ContextId) (outcome : PendingOutcome) : ProbeChange s (enterDone k outcome s) := by
  rcases enterDone_cases s k outcome with ⟨-, h⟩ | ⟨-, h⟩ <;> rw [h]
  · exact (setContext_probeChange s _ _).trans (appendLog_probeChange _ _)
  · exact ⟨s.host.events, s.host.interrupt, s.redirects, s.copy.queue, s.copy.engine, _, s.probes.log, _, rfl⟩

theorem serveWaiting_probeChange : ProbeChange s (serveWaiting s) := by
  unfold serveWaiting
  split
  · exact ProbeChange.refl s
  · split_ifs
    · exact ⟨_, _, s.redirects, s.copy.queue, s.copy.engine, _, _, _, rfl⟩
    · exact ProbeChange.refl s

/-- All that the abandonment of a job can do (R110, R111): with no such job nothing; else the first such job leaves the queue, its
entry is removed, and a burst on the port is marked if the job was the head. -/
theorem abandonJob_cases (isJob : CopyJob → Bool) :
    (s.copy.queue.find? isJob = none ∧ abandonJob isJob s = s) ∨
    ∃ j engine, s.copy.queue.find? isJob = some j ∧
      abandonJob isJob s = { s with
        redirects := Sparse.erase j.index.val s.redirects
        copy := { s.copy with queue := s.copy.queue.eraseP isJob, engine := engine } } ∧
      (s.copy.engine = .idle → engine = .idle) ∧
      ∀ b, s.copy.engine = .copying b → engine = .copying (b || s.copy.queue.head?.any isJob) := by
  unfold abandonJob
  cases h : s.copy.queue.find? isJob with
  | none => exact .inl ⟨rfl, rfl⟩
  | some j =>
    refine .inr ⟨j, _, rfl, rfl, ?_, ?_⟩
    · intro e
      rw [e]
    · intro b e
      rw [e]

theorem abandonJob_probeChange (isJob : CopyJob → Bool) : ProbeChange s (abandonJob isJob s) := by
  rcases abandonJob_cases s isJob with ⟨-, h⟩ | ⟨j, engine, -, h, -⟩ <;> rw [h]
  · exact ProbeChange.refl s
  · exact ⟨s.host.events, s.host.interrupt, _, _, _, s.probes.contexts, s.probes.log, s.probes.waiting, rfl⟩

/-- All that the start of a restore does (R104): a RESTORE job joins the tail of the copy queue, the context's entry becomes
PARK/RESTORING, and the context is RESTORING. -/
theorem beginRestore_eq (k : ContextId) : beginRestore k s = { s with
    redirects := (changeRedirect (contextOf s k).parkIndex .parkRestoring (.context k) s).redirects
    copy := { s.copy with
      queue := s.copy.queue ++ [{ kind := .restore, home := (contextOf s k).target, index := (contextOf s k).parkIndex
                                  owner := .context k, progress := 0 }] }
    probes := { s.probes with contexts := s.probes.contexts.set k { contextOf s k with state := .restoring } } } := by
  unfold beginRestore changeRedirect redirectAt
  dsimp only
  cases Sparse.find (contextOf s k).parkIndex.val s.redirects <;> rfl

theorem beginRestore_probeChange (k : ContextId) : ProbeChange s (beginRestore k s) := by
  rw [beginRestore_eq]
  exact ⟨s.host.events, s.host.interrupt, _, _, s.copy.engine, _, s.probes.log, s.probes.waiting, rfl⟩

theorem abortContext_probeChange (reason : AbortReason) (k : ContextId) : ProbeChange s (abortContext reason k s) := by
  unfold abortContext
  split
  · unfold abortParking
    refine (abandonJob_probeChange s (isParkOf k)).trans ((setContext_probeChange _ k
      { contextOf (abandonJob (isParkOf k) s) k with abortReason := some reason }).trans ?_)
    cases reason with
    | reset => exact setContext_probeChange _ _ _
    | host => exact enterDone_probeChange _ _ _
    | thermal => exact enterDone_probeChange _ _ _
  · exact (setContext_probeChange _ _ _).trans (beginRestore_probeChange _ _)
  · exact (setContext_probeChange _ _ _).trans (beginRestore_probeChange _ _)
  · exact (setContext_probeChange _ _ _).trans (beginRestore_probeChange _ _)
  · split_ifs
    · exact setContext_probeChange _ _ _
    · exact ProbeChange.refl s
  · split_ifs
    · exact setContext_probeChange _ _ _
    · exact ProbeChange.refl s
  · exact ProbeChange.refl s

/-- The abort of every context changes what an abort may change (R137, R138). -/
theorem abortAll_probeChange (reason : AbortReason) : ProbeChange s (abortAll reason s) := by
  unfold abortAll
  generalize allContexts = l
  induction l generalizing s with
  | nil => exact ProbeChange.refl s
  | cons k rest ih => exact (abortContext_probeChange s reason k).trans (ih _)

/-! ### Job ends and trial ends -/

/-- The parts the end of a copy job or of a trial may change: those of an abort, the records, the due queue with its dependents,
the controller and the retire outstanding. -/
def JobChange (s t : State) : Prop :=
  ∃ controller events interrupt records due cursor forced redirects queue engine retire contexts log waiting, t = { s with
    controller := controller
    host := { s.host with events := events, interrupt := interrupt }
    records := records
    scheduler := { s.scheduler with due := due, cursor := cursor, forced := forced }
    redirects := redirects
    copy := { s.copy with queue := queue, engine := engine, retire := retire }
    probes := { contexts := contexts, log := log, waiting := waiting } }

theorem ProbeChange.job {s t : State} (h : ProbeChange s t) : JobChange s t := by
  obtain ⟨e, i, r, q, g, c, l, w, rfl⟩ := h
  exact ⟨s.controller, e, i, s.records, s.scheduler.due, s.scheduler.cursor, s.scheduler.forced, r, q, g, s.copy.retire,
    c, l, w, rfl⟩

theorem JobChange.trans {s t u : State} (h1 : JobChange s t) (h2 : JobChange t u) : JobChange s u := by
  obtain ⟨_, _, _, _, _, _, _, _, _, _, _, _, _, _, rfl⟩ := h1
  obtain ⟨a, b, c, d, e, f, g, h, i, j, k, l, m, n, rfl⟩ := h2
  exact ⟨a, b, c, d, e, f, g, h, i, j, k, l, m, n, rfl⟩

theorem setRecord_jobChange (r : Row) (v : Record) : JobChange s (setRecord r v s) :=
  ⟨s.controller, s.host.events, s.host.interrupt, _, s.scheduler.due, s.scheduler.cursor, s.scheduler.forced, s.redirects,
    s.copy.queue, s.copy.engine, s.copy.retire, s.probes.contexts, s.probes.log, s.probes.waiting, rfl⟩

theorem departIfQueued_jobChange (r : Row) : JobChange s (departIfQueued r s) := by
  obtain ⟨records, due, cursor, forced, h, -⟩ := departIfQueued_eq s r
  rw [h]
  exact ⟨s.controller, s.host.events, s.host.interrupt, records, due, cursor, forced, s.redirects, s.copy.queue,
    s.copy.engine, s.copy.retire, s.probes.contexts, s.probes.log, s.probes.waiting, rfl⟩

theorem removeRedirect_jobChange (i : ReservedIndex) : JobChange s (removeRedirect i s) :=
  ⟨s.controller, s.host.events, s.host.interrupt, s.records, s.scheduler.due, s.scheduler.cursor, s.scheduler.forced, _,
    s.copy.queue, s.copy.engine, s.copy.retire, s.probes.contexts, s.probes.log, s.probes.waiting, rfl⟩

theorem testUnwind_cases : (unwindEnded s = true ∧ testUnwind s = raiseEvent .resetDone { s with controller := some .ready }) ∨
    (unwindEnded s = false ∧ testUnwind s = s) := by
  unfold testUnwind
  cases unwindEnded s
  · exact .inr ⟨rfl, rfl⟩
  · exact .inl ⟨rfl, rfl⟩

theorem testUnwind_jobChange : JobChange s (testUnwind s) := by
  rcases testUnwind_cases s with ⟨-, h⟩ | ⟨-, h⟩ <;> rw [h]
  · exact ⟨_, _, _, s.records, s.scheduler.due, s.scheduler.cursor, s.scheduler.forced, s.redirects, s.copy.queue,
      s.copy.engine, s.copy.retire, s.probes.contexts, s.probes.log, s.probes.waiting, rfl⟩
  · exact (ProbeChange.refl s).job

theorem parkDone_jobChange (k : ContextId) : JobChange s (parkDone k s) := by
  unfold parkDone
  dsimp only
  split
  · exact (departIfQueued_jobChange s _).trans ((setRecord_jobChange _ _ _).trans (setContext_probeChange _ _ _).job)
  all_goals exact (ProbeChange.refl s).job

theorem applyOutcome_jobChange (c : ProbeContext) : JobChange s (applyOutcome c s) := by
  unfold applyOutcome
  split
  · exact (ProbeChange.refl s).job
  · exact setRecord_jobChange _ _ _

theorem reinstate_jobChange (c : ProbeContext) : JobChange s (reinstate c s) := by
  unfold reinstate
  split
  · exact (ProbeChange.refl s).job
  · exact setRecord_jobChange _ _ _

theorem restoreDone_jobChange (k : ContextId) : JobChange s (restoreDone k s) := by
  unfold restoreDone
  dsimp only
  split
  · split
    · exact (applyOutcome_jobChange s _).trans (enterDone_probeChange _ _ _).job
    · exact (reinstate_jobChange s _).trans (setContext_probeChange _ _ _).job
    · exact (reinstate_jobChange s _).trans (enterDone_probeChange _ _ _).job
    · exact (reinstate_jobChange s _).trans (enterDone_probeChange _ _ _).job
  all_goals exact (ProbeChange.refl s).job

theorem retireRecord_jobChange (home : Row) (i : ReservedIndex) : JobChange s (retireRecord home i s) :=
  (departIfQueued_jobChange s _).trans (setRecord_jobChange _ _ _)

theorem retireDone_jobChange (j : CopyJob) : JobChange s (retireDone j s) := by
  unfold retireDone
  dsimp only
  refine (changeRedirect_probeChange s j.index .spareActive .command).job.trans
    ((retireRecord_jobChange _ j.home j.index).trans ?_)
  refine JobChange.trans ?_ (raiseEvent_probeChange _ _).job
  exact ⟨_, _, _, _, _, _, _, _, _, _, none, _, _, _, rfl⟩

theorem jobDone_jobChange (j : CopyJob) : JobChange s (jobDone j s) := by
  have tell : ∀ (t : State) (f : ContextId → State → State) (o : Owner), (∀ k u, JobChange u (f k u)) →
      JobChange t (tellOwner f o t) := by
    intro t f o h
    cases o with
    | context k => exact h k t
    | command => exact (ProbeChange.refl t).job
  unfold jobDone
  split
  · exact (changeRedirect_probeChange s _ _ _).job.trans (tell _ _ _ fun k u => parkDone_jobChange u k)
  · exact ((removeRedirect_jobChange s _).trans (tell _ _ _ fun k u => restoreDone_jobChange u k)).trans
      (testUnwind_jobChange _)
  · exact retireDone_jobChange s j

theorem advanceJob_jobChange : JobChange s (advanceJob s) := by
  unfold advanceJob
  split
  · exact (ProbeChange.refl s).job
  · have q : ∀ l, JobChange s { s with copy := { s.copy with queue := l } } := fun l =>
      ⟨s.controller, s.host.events, s.host.interrupt, s.records, s.scheduler.due, s.scheduler.cursor,
        s.scheduler.forced, s.redirects, l, s.copy.engine, s.copy.retire, s.probes.contexts, s.probes.log,
        s.probes.waiting, rfl⟩
    split_ifs
    · exact q _
    · exact (q _).trans (jobDone_jobChange _ _)

/-- The end of a copy burst, whatever becomes of its job, changes what a job's end may change. -/
theorem copyBurstResult_jobChange : JobChange s (copyBurstResult s) := by
  unfold copyBurstResult
  split
  · exact (ProbeChange.refl s).job
  · have q : JobChange s { s with copy := { s.copy with engine := .idle } } :=
      ⟨s.controller, s.host.events, s.host.interrupt, s.records, s.scheduler.due, s.scheduler.cursor,
        s.scheduler.forced, s.redirects, s.copy.queue, .idle, s.copy.retire, s.probes.contexts, s.probes.log,
        s.probes.waiting, rfl⟩
    dsimp only
    split_ifs
    · exact q
    · exact q.trans (advanceJob_jobChange _)

theorem finishProbe_jobChange (k : ContextId) : JobChange s (finishProbe k s) := by
  unfold finishProbe
  dsimp only
  refine (setContext_probeChange s k { contextOf s k with
    outcome := some (deriveOutcome s.config.autoRetire (contextOf s k)) }).job.trans ?_
  split_ifs
  · unfold convert
    dsimp only
    exact (changeRedirect_probeChange _ _ _ _).job.trans ((departIfQueued_jobChange _ _).trans
      ((setRecord_jobChange _ _ _).trans (enterDone_probeChange _ _ _).job))
  · exact (beginRestore_probeChange _ _).job

theorem endTrial_jobChange (k : ContextId) : JobChange s (endTrial k s) := by
  unfold endTrial
  dsimp only
  split_ifs
  · exact (setContext_probeChange _ _ _).job
  · exact (setContext_probeChange _ _ _).job
  · exact (setContext_probeChange _ _ _).job.trans (finishProbe_jobChange _ _)
  · exact (setContext_probeChange _ _ _).job.trans (finishProbe_jobChange _ _)

/-- The end of a check burst changes what a job's end may change. -/
theorem checkBurstResult_jobChange (k : ContextId) (differing : List Nat) :
    JobChange s (checkBurstResult k differing s) := by
  unfold checkBurstResult
  split
  · dsimp only
    split_ifs
    · exact (setContext_probeChange _ _ _).job
    · exact (setContext_probeChange _ _ _).job.trans (endTrial_jobChange _ _)
  all_goals exact (ProbeChange.refl s).job

/-- The end of a pattern burst changes the context alone. -/
theorem patternBurstResult_probeChange (k : ContextId) : ProbeChange s (patternBurstResult k s) := by
  unfold patternBurstResult
  dsimp only
  split
  · split_ifs <;> exact setContext_probeChange _ _ _
  all_goals exact ProbeChange.refl s

/-! ### Readings and passes -/

/-- The parts a reading, a sensor timeout or a taken slice expiry may change: those of an abort, the supervisor and the
scheduler. -/
def PassChange (s t : State) : Prop :=
  ∃ events interrupt redirects queue engine contexts log waiting supervisor scheduler, t = { s with
    host := { s.host with events := events, interrupt := interrupt }
    redirects := redirects
    copy := { s.copy with queue := queue, engine := engine }
    probes := { contexts := contexts, log := log, waiting := waiting }
    supervisor := supervisor
    scheduler := scheduler }

theorem ProbeChange.pass {s t : State} (h : ProbeChange s t) : PassChange s t := by
  obtain ⟨e, i, r, q, g, c, l, w, rfl⟩ := h
  exact ⟨e, i, r, q, g, c, l, w, s.supervisor, s.scheduler, rfl⟩

theorem PassChange.trans {s t u : State} (h1 : PassChange s t) (h2 : PassChange t u) : PassChange s u := by
  obtain ⟨_, _, _, _, _, _, _, _, _, _, rfl⟩ := h1
  obtain ⟨a, b, c, d, e, f, g, h, i, j, rfl⟩ := h2
  exact ⟨a, b, c, d, e, f, g, h, i, j, rfl⟩

theorem supervisor_passChange (v : Supervisor) : PassChange s { s with supervisor := v } :=
  ⟨s.host.events, s.host.interrupt, s.redirects, s.copy.queue, s.copy.engine, s.probes.contexts, s.probes.log,
    s.probes.waiting, v, s.scheduler, rfl⟩

theorem scheduler_passChange (v : Scheduler) : PassChange s { s with scheduler := v } :=
  ⟨s.host.events, s.host.interrupt, s.redirects, s.copy.queue, s.copy.engine, s.probes.contexts, s.probes.log,
    s.probes.waiting, s.supervisor, v, rfl⟩

/-- All that an entry into a thermal state can do (R137, R158): nothing if it is the state already; else THERMAL_CHANGE, with the
aborts at an entry into HOT. -/
theorem enterThermal_cases (new : ThermalState) :
    (s.supervisor.thermal = new ∧ enterThermal new s = s) ∨
    (s.supervisor.thermal ≠ new ∧ new ≠ .hot ∧ enterThermal new s =
      raiseEvent .thermalChange { s with supervisor := { s.supervisor with thermal := new } }) ∨
    (s.supervisor.thermal ≠ new ∧ new = .hot ∧ enterThermal new s = abortAll .thermal
      (raiseEvent .thermalChange { s with supervisor := { s.supervisor with thermal := new } })) := by
  unfold enterThermal
  by_cases h : s.supervisor.thermal = new
  · exact .inl ⟨h, if_pos h⟩
  · rw [if_neg h]
    by_cases h2 : new = .hot
    · exact .inr (.inr ⟨h, h2, if_pos h2⟩)
    · exact .inr (.inl ⟨h, h2, if_neg h2⟩)

theorem enterThermal_passChange (new : ThermalState) : PassChange s (enterThermal new s) := by
  rcases enterThermal_cases s new with ⟨-, h⟩ | ⟨-, -, h⟩ | ⟨-, -, h⟩ <;> rw [h]
  · exact (ProbeChange.refl s).pass
  · exact (supervisor_passChange s _).trans (raiseEvent_probeChange _ _).pass
  · exact (supervisor_passChange s _).trans ((raiseEvent_probeChange _ _).pass.trans (abortAll_probeChange _ _).pass)

theorem readingArrives_passChange (reading : Int) : PassChange s (readingArrives reading s) := by
  unfold readingArrives
  dsimp only
  split_ifs <;> first
    | exact supervisor_passChange s _
    | exact (supervisor_passChange s _).trans (enterThermal_passChange _ _)

theorem testSensorTimeout_passChange : PassChange s (testSensorTimeout s) := by
  unfold testSensorTimeout sensorTimeout
  split_ifs
  · exact (supervisor_passChange s _).trans ((enterThermal_passChange _ _).trans (raiseEvent_probeChange _ _).pass)
  · exact (ProbeChange.refl s).pass

theorem supervisorPassStart_passChange : PassChange s (supervisorPassStart s) := by
  unfold supervisorPassStart
  split_ifs
  · exact (supervisor_passChange s _).trans (testSensorTimeout_passChange _)
  · split
    · exact supervisor_passChange s _
    · exact (ProbeChange.refl s).pass

theorem passStart_passChange : PassChange s (passStart s) :=
  (scheduler_passChange s _).trans (supervisorPassStart_passChange _)

theorem overrun_passChange : PassChange s (overrun s) :=
  (scheduler_passChange s _).trans (raiseEvent_probeChange _ _).pass

/-- A taken slice expiry changes no record, no due entry, no request and nothing of the port (R58). -/
theorem takeExpiry_passChange : PassChange s (takeExpiry s) := by
  have h2 : ∀ (t : State) (c : Prop) [Decidable c], PassChange t (if c then passStart t else t) := by
    intro t c _
    split_ifs
    · exact passStart_passChange t
    · exact (ProbeChange.refl t).pass
  have h3 : ∀ (t : State) (c : Prop) [Decidable c], PassChange t (if c then overrun t else t) := by
    intro t c _
    split_ifs
    · exact overrun_passChange t
    · exact (ProbeChange.refl t).pass
  exact (scheduler_passChange s _).trans ((h2 _ _).trans ((h3 _ _).trans (scheduler_passChange _ _)))

theorem releaseHeld_passChange : PassChange s (releaseHeld s) := by
  unfold releaseHeld
  split_ifs
  · exact (takeExpiry_passChange s).trans (scheduler_passChange _ _)
  · exact (ProbeChange.refl s).pass

theorem endScan_passChange (c : ScanCursor) : PassChange s (endScan c s) := by
  unfold endScan
  dsimp only
  rw [testForced_eq]
  exact (scheduler_passChange s _).trans ((releaseHeld_passChange _).trans (scheduler_passChange _ _))

theorem advanceScan_passChange (c : ScanCursor) : PassChange s (advanceScan c s) := by
  unfold advanceScan
  split_ifs
  · exact scheduler_passChange s _
  · exact scheduler_passChange s _
  · exact endScan_passChange s c

/-- All that the age test of a visit can do (R66). -/
theorem ageDemotion_cases (row : Row) :
    ((recordOf s row).status = .profiled ∧ s.config.ageLimit ≤ recordAge s.scheduler.epoch (recordOf s row) ∧
      ageDemotion row s = raiseEvent .ageDemote (setRecord row { recordOf s row with
        status := .unprofiled, cls := 0, margin := 0, stamp := none, spare := none } s)) ∨
    (((recordOf s row).status ≠ .profiled ∨ recordAge s.scheduler.epoch (recordOf s row) < s.config.ageLimit) ∧
      ageDemotion row s = s) := by
  unfold ageDemotion
  dsimp only
  split_ifs with h
  · exact .inl ⟨h.1, h.2, rfl⟩
  · exact .inr ⟨by rw [not_and_or, not_le] at h; exact h, rfl⟩

/-- A record after a row has been appended to the due queue (R67). -/
theorem recordOf_appendDue (row q : Row) (stamp : Nat) :
    recordOf (appendDue row stamp s) q =
      if q = row then { recordOf s row with queued := true } else recordOf s q := by
  unfold appendDue
  rw [recordOf_setRecord]
  rfl

/-! ### Commands -/

/-- All that a write to CMD can do (R170): a refusal changes CMD and CMD_STATUS alone; an accepted command has its effects, reports
ACCEPTED, and the arbiter runs. -/
theorem takeCommand_cases (code : Word) (body : State → Verdict) :
    (isReady s = false ∧ takeCommand code body s =
      { s with host := { s.host with command := code, status := .notReady } }) ∨
    (isReady s = true ∧ ∃ refusal, body { s with host := { s.host with command := code } } = .refused refusal ∧
      takeCommand code body s = { s with host := { s.host with command := code, status := refusal } }) ∨
    (isReady s = true ∧ ∃ t, body { s with host := { s.host with command := code } } = .accepted t ∧
      takeCommand code body s = arbitrate (setCommandStatus .accepted t)) := by
  unfold takeCommand
  have hr : isReady { s with host := { s.host with command := code } } = isReady s := rfl
  dsimp only
  rw [hr]
  cases isReady s with
  | false => exact .inl ⟨rfl, rfl⟩
  | true =>
    cases hb : body { s with host := { s.host with command := code } } with
    | refused refusal => exact .inr (.inl ⟨rfl, refusal, rfl, rfl⟩)
    | accepted t => exact .inr (.inr ⟨rfl, t, rfl, rfl⟩)

end Sys2Proof.Machine
end

