-- ==== Sys2Proof/Tests/Slice0.lean ====
section
/-! SUPPORT. The model's own tests: each command on one small state, expected results taken from the manual's worked tables,
the refusals of WellFormed, and a witness for the hypotheses of every statement that has some. -/

namespace Sys2Proof.Tests

open Sys2Proof Sys2Proof.Machine

/-! ### Small states -/

/-- The state a command leads to. -/
def after (c : Instr) (s : State) : State :=
  match exec c s with
  | .next t => t
  | .fault _ => s
  | .refused _ => s

/-- A part with `n` devices right after INIT: READY, HOT, nothing waiting. -/
def ready (n : Nat) : State :=
  { State.reset with
    controller := some .ready, deviceCount := n
    port := { ArrayPort.atReset with pause := .stopped, initCycle := 8 * n }
    scheduler := { Scheduler.atReset with sliceTimer := .running 8000 0 } }

/-- The same with a full window of 38, 39, 40, 41 and the thermal state NORMAL (Table 11-1, event 8). -/
def cool (n : Nat) : State :=
  { ready n with supervisor := { Supervisor.atReset with window := [38, 39, 40, 41], thermal := .normal } }

/-- A row of a device. -/
def row (d : DeviceId) (n : RowNumber) : Row :=
  { device := d, number := n }

/-- With an operation on the port. -/
def onPort (op : PortOperation) (s : State) : State :=
  occupyPort op s

/-- With the argument registers ARG0, ARG1, ARG2 and ARG3. -/
def withArgs (a0 a1 a2 a3 : Word) (s : State) : State :=
  { s with host := { s.host with args := { q0 := a0, q1 := a1, q2 := a2, q3 := a3 } } }

/-- A posted READ. -/
def readRequest (tag : BitVec 8) (r : Row) (length : Nat) : Request :=
  { tag := tag, kind := .read, row := r, column := 0, length := length, fill := none, data := none }

/-- With a request queue. -/
def withRequests (l : List Request) (s : State) : State :=
  { s with requests := { s.requests with requests := l } }

/-- With a due queue, the queued flags set. -/
def withDue (l : List DueEntry) (s : State) : State :=
  l.foldl (fun t e => appendDue e.row e.stamp t) s

/-! ### WellFormed refuses an ill-formed term by each of its checks -/

theorem test_wellFormed_decay_twice_on_host_access :
    Instr.wellFormed (.hostAccessCompletion [(3, 0), (3, 1)]) = false := by decide

theorem test_wellFormed_decay_twice_on_copy_burst :
    Instr.wellFormed (.copyBurstCompletion [(3, 0), (3, 1)]) = false := by decide

theorem test_wellFormed_decay_twice_on_check_burst :
    Instr.wellFormed (.checkBurstCompletion [(3, 0), (3, 1)]) = false := by decide

theorem test_wellFormed_softReset_bit_clear : Instr.wellFormed (.softReset 0xFFFE) = false := by decide

theorem test_wellFormed_registerWrite_own_row : Instr.wellFormed (.registerWrite 0x0C 0x0005) = false := by decide

theorem test_wellFormed_registerWrite_soft_reset : Instr.wellFormed (.registerWrite 0x05 0x0001) = false := by decide

theorem test_wellFormed_badCmd_assigned_code : Instr.wellFormed (.badCmd 8) = false := by decide

theorem test_wellFormed_accepts : Instr.wellFormed (.badCmd 9) = true ∧ Instr.wellFormed (.badCmd 0) = true ∧
    Instr.wellFormed (.registerWrite 0x14 0) = true ∧ Instr.wellFormed (.hostAccessCompletion [(3, 0), (4, 0)]) = true := by
  decide

/-! ### Reset, pause and initialisation (Tables 10-1 and 11-1) -/

theorem test_rstinAssert_cuts_off :
    (after .rstinAssert (onPort (.rowRefresh (row 0 3)) (ready 1))).port.operation = none ∧
    readRegister (after .rstinAssert (ready 1)) 0x00 = 0 := by decide

theorem test_rstinRelease_register_values :
    readRegister (after (.rstinRelease 1) (ready 4)) 0x00 = 0xD410 ∧
    readRegister (after (.rstinRelease 1) (ready 4)) 0x01 = 0x2200 ∧
    readRegister (after (.rstinRelease 1) (ready 4)) 0x07 = 60 := by decide

theorem test_powerUpPauseExpiry_grants_cycle_0 :
    (after .powerUpPauseExpiry State.reset).port.operation = some (.initCycle (row 0 0)) ∧
    (after .powerUpPauseExpiry State.reset).controller = some .init := by decide

theorem test_initCycleCompletion_of_cycle_15 :
    let s := onPort (.initCycle (row 1 7)) { State.reset with
      controller := some .init, deviceCount := 2, port := { ArrayPort.atReset with pause := .stopped, initCycle := 15 } }
    (after .initCycleCompletion s).controller = some .ready ∧
    (after .initCycleCompletion s).host.events = 0x001#10 ∧
    (after .initCycleCompletion s).scheduler.sliceTimer = .running 8000 0 := by decide

/-! ### The arbiter and the open-row timers (Tables 1-3 and 2-4) -/

/-- Grant 1 of Table 2-4: a READ of 0:10 at the head, a PARK job for 1:300 at index 0, 1:40 and 0:56 due and not urgent. -/
def loaded (count : Nat) : State :=
  let s := withRequests [readRequest 1 (row 0 10) 16] (withDue [⟨row 1 40, 65535⟩, ⟨row 0 56, 65535⟩] (cool 2))
  { s with
    port := { s.port with hostGrants := count }
    copy := { s.copy with
      queue := [{ kind := .park, home := row 1 300, index := 0, owner := .context 0, progress := 0 }] } }

theorem test_grant_request_first :
    (after .grant (loaded 0)).port.operation = some (.hostAccess (row 0 10) .read 0 16 [] false false) ∧
    (after .grant (loaded 0)).port.hostGrants = 1 := by decide

theorem test_grant_copy_at_count_8 :
    (after .grant (loaded 8)).port.operation = some (.copyBurst (row 1 300) (row 0 1022) 0) ∧
    (after .grant (loaded 8)).port.hostGrants = 0 := by decide

/-- Table 1-3 at the completion of the ROW REFRESH of 2:36: device 0 OPEN with row 100, its timer EXPIRED, its claim raised. -/
def refreshing : State :=
  let s := onPort (.rowRefresh (row 2 36)) (setDevice 0 { openRow := some 100, timer := .expired, closeClaim := true } (cool 4))
  { s with scheduler := { s.scheduler with refreshing := true } }

theorem test_rowRefreshCompletion_close_claim_granted :
    (after .rowRefreshCompletion refreshing).port.operation = some (.rowClose 0) ∧
    deviceState (after .rowRefreshCompletion refreshing) 0
      = { openRow := some 100, timer := .stopped, closeClaim := false } := by decide

theorem test_rowCloseCompletion_closes :
    let s := onPort (.rowClose 0) (setDevice 0 { openRow := some 100, timer := .stopped, closeClaim := false } (cool 4))
    deviceState (after .rowCloseCompletion s) 0 = { openRow := none, timer := .stopped, closeClaim := false } ∧
    (after .rowCloseCompletion s).port.operation = none := by decide

theorem test_openRowTimerExpiry_raises_claim :
    let s := onPort (.rowRefresh (row 2 36)) (setDevice 0
      { openRow := some 100, timer := .running 120 119, closeClaim := false } (cool 4))
    deviceState (after (.openRowTimerExpiry 0) s) 0
      = { openRow := some 100, timer := .expired, closeClaim := true } ∧
    (after (.openRowTimerExpiry 0) s).port.operation = some (.rowRefresh (row 2 36)) := by decide

/-! ### Host requests (Tables 1-3 and 5-2) -/

/-- Table 1-3: the READ of 0:100, columns 0 to 15, a miss under the OPEN policy, on the port. -/
def reading : State :=
  let s := onPort (.hostAccess (row 0 100) .read 0 2 [] true false) (withRequests [readRequest 1 (row 0 100) 2]
    (writeBytes (row 0 100) 0 [0xA1, 0xB2] (cool 4)))
  { s with
    config := { s.config with pageOpen := true }
    requests := { s.requests with access := some { target := row 0 100, redirected := false, discarded := false } } }

theorem test_hostAccessCompletion_opens_row :
    deviceState (after (.hostAccessCompletion []) reading) 0
      = { openRow := some 100, timer := .running 120 0, closeClaim := false } ∧
    (after (.hostAccessCompletion []) reading).requests.completions.map Completion.data
      = [some [0xA1, 0xB2]] := by decide

/-- Table 5-2 at event 6: the WRITE 7 on the port, behind it READ 8 of a reserved row, READ 9 of 0:300, whose entry is
PARK/COPYING, and FILL 10. -/
def writing7 : State :=
  let w : Request := { tag := 7, kind := .write, row := row 1 200, column := 0, length := 5, fill := none,
                       data := some [0x11, 0x22, 0x33, 0x44, 0x55] }
  let f : Request := { tag := 10, kind := .fill, row := row 0 301, column := 0, length := 256, fill := some 0, data := none }
  let s := onPort (.hostAccess (row 1 200) .write 0 5 [0x11, 0x22, 0x33, 0x44, 0x55] false false)
    (withRequests [w, readRequest 8 (row 0 1023) 1, readRequest 9 (row 0 300) 4, f]
      (setRedirect 2 { home := row 0 300, state := .parkCopying, owner := .context 0 } (cool 2)))
  { s with requests := { s.requests with
      access := some { target := row 1 200, redirected := false, discarded := false } } }

theorem test_hostAccessCompletion_failed_head_follows :
    (after (.hostAccessCompletion []) writing7).requests.completions.map (fun c => (c.tag, c.status))
      = [(7, .ok), (8, .reserved)] ∧
    headCondition (after (.hostAccessCompletion []) writing7) = some .stalled := by decide

theorem test_failedHeadCompletion_nodev :
    let s := withRequests [readRequest 8 (row 2 5) 40, readRequest 9 (row 0 5) 33] (cool 2)
    (after .failedHeadCompletion s).requests.completions.map (fun c => (c.tag, c.status, c.length))
      = [(8, .nodev, 40), (9, .bounds, 33)] ∧
    (after .failedHeadCompletion s).host.events = 0x004#10 := by decide

/-- Table 5-2 at event 1: six bytes staged, and the fields of the WRITE tag 7 of 1:200 with a length of 5. -/
def staged (length : BitVec 9) : State :=
  { cool 2 with
    requests := { RequestEngine.atReset with
      kindField := 1, deviceField := 1, rowField := 200, lengthField := length, tagField := 7
      staging := [0x11, 0x22, 0x33, 0x44, 0x55, 0x66] } }

theorem test_rqPost_write_granted_at_once :
    (after (.rqPost 0) (staged 5)).requests.staging = [0x66] ∧
    (after (.rqPost 0) (staged 5)).port.operation
      = some (.hostAccess (row 1 200) .write 0 5 [0x11, 0x22, 0x33, 0x44, 0x55] false false) := by decide

theorem test_rqPost_stage_short :
    (after (.rqPost 0) (staged 7)).host.error = .stageShort ∧
    (after (.rqPost 0) (staged 7)).requests.requests = [] := by decide

theorem test_stageData_low_byte_first :
    (after (.stageData 0x2211) (ready 1)).requests.staging = [0x11, 0x22] := by decide

theorem test_stageData_overflow :
    let s := { ready 1 with requests := { RequestEngine.atReset with staging := List.replicate 63 0 } }
    (after (.stageData 0x2211) s).host.error = .stageOverflow ∧
    (after (.stageData 0x2211) s).requests.staging.length = 63 := by decide

/-- The completion of a READ of four bytes at the head of the CQ, the cursor given. -/
def completed (cursor : Nat) : State :=
  { ready 1 with
    requests := { RequestEngine.atReset with
      completions := [{ tag := 9, status := .ok, redirected := true, length := 4, data := some [0x0A, 0x0B, 0x0C, 0x0D] }]
      cursor := cursor } }

theorem test_cqData_second_word :
    (after .cqData (completed 2)).host.readData = 0x0D0C ∧ (after .cqData (completed 2)).requests.cursor = 4 := by decide

theorem test_cqData_at_the_end :
    (after .cqData (completed 4)).host.readData = 0 ∧ (after .cqData (completed 4)).requests.cursor = 4 := by decide

theorem test_cqPop_removes_head :
    (after (.cqPop 0) (completed 4)).requests.completions = [] ∧ (after (.cqPop 0) (completed 4)).requests.cursor = 0 := by
  decide

theorem test_cqPop_empty : (after (.cqPop 0) (ready 1)).host.error = .cqEmptyPop := by decide

/-! ### Refresh scheduling (Tables 4-2, 4-3 and 11-1) -/

theorem test_sliceTimerExpiry_first_pass_start :
    (after .sliceTimerExpiry (ready 2)).scheduler =
      { sliceTimer := .running 8000 0, serial := 0, pass := 1, epoch := 0, tbase := 64, pendingSlices := 1,
        cursor := some { serial := 0, pass := 1, device := 0, row := 0, paused := false }, due := [], forced := false,
        refreshing := false } ∧
    (after .sliceTimerExpiry (ready 2)).supervisor.conversion = .converting false := by decide

/-- Table 4-3 before event 6: serial 301, the head entry of slice 300. -/
def behind : State :=
  let s := onPort (.rowRefresh (row 0 12)) (withDue [⟨row 0 28, 300⟩] (cool 4))
  { s with scheduler := { s.scheduler with serial := 301, pass := 19, refreshing := true } }

theorem test_sliceTimerExpiry_overrun :
    (after .sliceTimerExpiry behind).scheduler.forced = true ∧
    (after .sliceTimerExpiry behind).host.events = 0x100#10 := by decide

/-- Table 4-2: the cursor of slice 5 in pass 42, epoch 120, on a row of device 0 with a record. -/
def visiting (n : RowNumber) (record : Record) : State :=
  let s := setRecord (row 0 n) record (cool 2)
  { s with
    scheduler := { s.scheduler with
      serial := 677, pass := 42, epoch := 120, pendingSlices := 1
      cursor := some { serial := 677, pass := 42, device := 0, row := n, paused := false } } }

/-- A PROFILED record of a class and stamp. -/
def profile (cls margin stamp : Nat) : Record :=
  { status := .profiled, cls := cls, margin := margin, stamp := some stamp, queued := false, spare := none }

theorem test_scanVisit_age_demotion :
    recordOf (after .scanVisit (visiting 117 (profile 2 8 20))) (row 0 117)
      = { status := .unprofiled, cls := 0, margin := 0, stamp := none, queued := false, spare := none } ∧
    (after .scanVisit (visiting 117 (profile 2 8 20))).host.events = 0x200#10 ∧
    (after .scanVisit (visiting 117 (profile 2 8 20))).port.operation = some (.rowRefresh (row 0 117)) := by decide

theorem test_scanVisit_not_due :
    (after .scanVisit (visiting 53 (profile 1 4 100))).scheduler.due = [] ∧
    (after .scanVisit (visiting 53 (profile 1 4 100))).port.operation = none ∧
    ((after .scanVisit (visiting 37 (profile 2 8 95))).port.operation = some (.rowRefresh (row 0 37))) := by decide

theorem test_heldExpiryTaken_runs_anew :
    let s := { ready 2 with scheduler := { Scheduler.atReset with
      sliceTimer := .expired, serial := 14, pendingSlices := 14
      cursor := some { serial := 1, pass := 1, device := 0, row := 1, paused := false } } }
    (after .heldExpiryTaken s).scheduler.serial = 15 ∧ (after .heldExpiryTaken s).scheduler.pendingSlices = 15 ∧
    (after .heldExpiryTaken s).scheduler.sliceTimer = .running 8000 0 := by decide

theorem test_forcedClear_lets_request_claim :
    let s := withDue [⟨row 0 14, 302⟩] (withRequests [readRequest 1 (row 0 10) 16] (cool 4))
    let t := { s with scheduler := { s.scheduler with serial := 302, forced := true } }
    (after .forcedClear t).scheduler.forced = false ∧
    (after .forcedClear t).port.operation = some (.hostAccess (row 0 10) .read 0 16 [] false false) := by decide

theorem test_forcedClear_stays_with_urgent_entry :
    let s := withDue [⟨row 0 14, 301⟩] (cool 4)
    (after .forcedClear { s with scheduler := { s.scheduler with serial := 302, forced := true } }).port.operation
      = some (.rowRefresh (row 0 14)) := by decide

/-! ### Copies and probes (Tables 6-4, 7-4, 11-2 and 11-3) -/

/-- Table 6-4 at event 6: burst 7 of the RETIRE job of 0:517 on the port. -/
def retiring : State :=
  let s := onPort (.copyBurst (row 0 517) (row 1 1022) 7)
    (setRedirect 2 { home := row 0 517, state := .spareCopying, owner := .command }
      (setRecord (row 0 517)
        { status := .suspect, cls := 0, margin := 1, stamp := none, queued := false, spare := none } (cool 2)))
  { s with
    copy := { s.copy with
      queue := [{ kind := .retire, home := row 0 517, index := 2, owner := .command, progress := 7 }]
      engine := .copying false, retire := some (row 0 517, 2) } }

theorem test_copyBurstCompletion_ends_retire :
    recordOf (after (.copyBurstCompletion []) retiring) (row 0 517)
      = { status := .retired, cls := 0, margin := 0, stamp := none, queued := false, spare := some 2 } ∧
    redirectAt (after (.copyBurstCompletion []) retiring) 2
      = some { home := row 0 517, state := .spareActive, owner := .command } ∧
    (after (.copyBurstCompletion []) retiring).host.events = 0x020#10 := by decide

/-- Table 11-5 at event 3: burst 3 of an abandoned park on the port, a RESTORE job of context 0 waiting. -/
def discarding : State :=
  let s := onPort (.copyBurst (row 0 300) (row 1 1022) 3) (cool 2)
  { s with
    copy := { s.copy with
      queue := [{ kind := .restore, home := row 1 40, index := 0, owner := .context 0, progress := 0 }]
      engine := .copying true } }

theorem test_copyBurstCompletion_discarded :
    (after (.copyBurstCompletion []) discarding).copy.queue.map CopyJob.progress = [0] ∧
    (after (.copyBurstCompletion []) discarding).port.operation = some (.copyBurst (row 0 1022) (row 1 40) 0) := by decide

/-- Context 0 of Table 7-4 in a state, parked at index 0 for a SEARCH of 1:40. -/
def probe (state : ContextState) (step trial burstsDone : Nat) : ProbeContext :=
  { ProbeContext.atReset with
    state := state, target := row 1 40, trials := 2, step := step, trial := trial, burstsDone := burstsDone
    prior := some { status := .unprofiled, cls := 0, margin := 0, age := none } }

/-- The part with that context, its entry and its record. -/
def probing (c : ProbeContext) : State :=
  setContext 0 c (setRedirect 0 { home := row 1 40, state := .parkHeld, owner := .context 0 }
    (setRecord (row 1 40)
      { status := .probing, cls := 0, margin := 0, stamp := none, queued := false, spare := none } (cool 2)))

theorem test_patternBurstCompletion_starts_stretch :
    let s := onPort (.patternBurst 0 (row 1 40) 7 (List.replicate 32 0)) (probing (probe .writing 2 1 7))
    (contextOf (after .patternBurstCompletion s) 0).state = .stretch ∧
    (contextOf (after .patternBurstCompletion s) 0).stretchTimer = .running 256000 0 := by decide

theorem test_stretchTimerExpiry_checks :
    let s := probing { probe .stretch 2 1 0 with stretchTimer := .running 256000 256000 }
    (contextOf (after (.stretchTimerExpiry 0) s) 0).state = .checking ∧
    (after (.stretchTimerExpiry 0) s).port.operation
      = some (.checkBurst 0 (row 1 40) 0 (List.replicate 32 0)) := by decide

/-- Table 7-4 at event 9: check burst 2 of trial 2 at step 8 on the port, the row's 32 columns holding zeros. -/
def checking (c : ProbeContext) (burst : Nat) : State :=
  onPort (.checkBurst 0 (row 1 40) burst (List.replicate 32 0))
    (writeBytes (row 1 40) (32 * burst) (List.replicate 32 0) (probing c))

/-- The two columns decayed by check burst 0 count at burst 2, and a cell that decays after burst 0 does not (R127). -/
theorem test_checkBurstCompletion_counts :
    let c := contextOf (after (.checkBurstCompletion [(80, 5)])
      (applyDecay (row 1 40) [(77, 1), (90, 8)] (checking (probe .checking 8 2 2) 2))) 0
    c.mismatch = 2 ∧ c.firstFailing = some 77 ∧ c.burstsDone = 3 ∧ c.state = .checking := by decide

theorem test_checkBurstCompletion_fails_trial :
    let c := { probe .checking 8 2 7 with mismatch := 3, firstFailing := some 77, lastPassed := 4 }
    let t := after (.checkBurstCompletion []) (checking c 7)
    (contextOf t 0).state = .restoring ∧ (contextOf t 0).failingStep = some 8 ∧ (contextOf t 0).burstsDone = 8 ∧
    (contextOf t 0).outcome.bind PendingOutcome.record
      = some { status := .profiled, cls := 1, margin := 4, renewStamp := true } := by decide

theorem test_probeStart_parks :
    let s := withArgs 0x0202 0 0 0x1028 (cool 2)
    (after .probeStart s).redirects = [(0, { home := row 1 40, state := .parkCopying, owner := .context 0 })] ∧
    (after .probeStart s).port.operation = some (.copyBurst (row 1 40) (row 0 1022) 0) ∧
    (contextOf (after .probeStart s) 0).step = 2 := by decide

theorem test_probeStart_thermal :
    (after .probeStart (withArgs 0x0202 0 0 0x02BC (ready 2))).host.status = .thermal := by decide

theorem test_probeAbort_in_stretch :
    let s := withArgs 0 0 0 0 (probing { probe .stretch 8 2 0 with stretchTimer := .running 512000 5, lastPassed := 4 })
    (contextOf (after .probeAbort s) 0).state = .restoring ∧
    (contextOf (after .probeAbort s) 0).abortReason = some .host ∧
    (after .probeAbort s).redirects = [(0, { home := row 1 40, state := .parkRestoring, owner := .context 0 })] := by decide

theorem test_probeAbort_idle_context : (after .probeAbort (withArgs 3 0 0 0 (cool 2))).host.status = .state := by decide

theorem test_retire_takes_index_2 :
    let s := withArgs 0 0 0 0x0205 (probing (probe .writing 2 1 0))
    redirectAt (after .retire s) 2 = some { home := row 0 517, state := .spareCopying, owner := .command } ∧
    (after .retire s).copy.retire = some (row 0 517, 2) ∧ (after .retire s).host.results.q0 = 2 := by decide

theorem test_retire_busy : (after .retire (withArgs 0 0 0 0x0259 retiring)).host.status = .busy := by decide

/-! ### Outcomes and the log (Tables 8-2, 8-3 and 11-3) -/

theorem test_check_outcomes :
    let prior : PriorRecord := { status := .profiled, cls := 2, margin := 8, age := some 3 }
    passedCheckOutcome 12 prior = (.revalidated, { status := .profiled, cls := 2, margin := 12, renewStamp := true }) ∧
    passedCheckOutcome 5 prior = (.demoted, { status := .profiled, cls := 1, margin := 5, renewStamp := true }) ∧
    passedCheckOutcome 1 prior = (.demoted, { status := .unprofiled, cls := 0, margin := 0, renewStamp := false }) ∧
    failedCheckOutcome false 2 = (.suspect, { status := .suspect, cls := 0, margin := 0, renewStamp := false }) ∧
    failedCheckOutcome false 12 = (.demoted, { status := .unprofiled, cls := 0, margin := 0, renewStamp := false }) := by
  decide

/-- The log entry of Table 11-3, event 3. -/
def entry : LogEntry :=
  { context := 0, row := row 0 517, mode := .search, outcome := .retired, newClass := none, margin := 0,
    failingStep := some 2, mismatch := 9, firstFailing := some 40, abortReason := none }

/-- With a log and a wait order, the contexts that wait in DONE. -/
def withLog (log : List LogEntry) (waiting : List ContextId) (s : State) : State :=
  let t := waiting.foldl (fun u k => setContext k { probe .done 2 1 0 with
    outcome := some abortedOutcome, abortReason := some .thermal } u) s
  { t with probes := { t.probes with log := log, waiting := waiting } }

theorem test_logRead_words :
    (after .logRead (withLog [entry] [] (ready 2))).host.results
      = { q0 := 0x0040, q1 := 0x0205, q2 := 0xC200, q3 := 0x2809 } := by decide

theorem test_logRead_empty : (after .logRead (ready 2)).host.status = .empty := by decide

theorem test_logPop_serves_waiting :
    let t := after .logPop (withLog (List.replicate 8 entry) [1, 2] (ready 2))
    t.probes.log.length = 8 ∧ t.probes.waiting = [2] ∧ (contextOf t 1).state = .idle ∧
    t.probes.log.getLast?.map LogEntry.abortReason = some (some .thermal) := by decide

theorem test_logWaitAppend_with_room :
    let t := after .logWaitAppend (withLog (List.replicate 7 entry) [2] (ready 2))
    t.probes.log.length = 8 ∧ t.probes.waiting = [] ∧ t.host.events = 0x010#10 := by decide

/-! ### Patterns (sections 7.2 and 7.3) -/

theorem test_lfsr_first_bytes :
    lfsrBytes 2 (lfsrLoad 0x7FFF (row 0 0)) = [0xFF, 0x7F] ∧ lfsrBytes 1 (lfsrLoad 0x8000 (row 0 0)) = [0x00] := by decide

theorem test_checker_parity :
    patternByte .checker [] (row 1 41) 3 = 0x55 ∧ patternByte .checker [] (row 1 40) 3 = 0xAA := by decide

/-! ### Temperature (Table 9-2) -/

/-- INTERNAL mode with a conversion in progress, a window and a state. -/
def converting (window : List Int) (thermal : ThermalState) : State :=
  { ready 2 with supervisor := { Supervisor.atReset with
      conversion := .converting false, window := window, thermal := thermal } }

theorem test_conversionCompletion_enters_warm :
    (after (.conversionCompletion 80) (converting [46, 60, 72, 78] .normal)).supervisor.thermal = .warm ∧
    (after (.conversionCompletion 80) (converting [46, 60, 72, 78] .normal)).host.events = 0x040#10 := by decide

theorem test_conversionCompletion_leaves_hot_by_hysteresis :
    (after (.conversionCompletion 76) (converting [84, 90, 95, 82] .hot)).supervisor.thermal = .hot ∧
    (after (.conversionCompletion 70) (converting [90, 95, 82, 76] .hot)).supervisor.thermal = .warm := by decide

/-- EXTERNAL mode at a staleness count. -/
def external (stale : Nat) (s : State) : State :=
  { s with config := { s.config with external := true }, supervisor := { s.supervisor with stale := stale } }

theorem test_tempSupply_clamps :
    (after .tempSupply (withArgs 200 0 0 0 (external 2 (ready 2)))).supervisor.lastReading = some 125 ∧
    (after .tempSupply (withArgs 200 0 0 0 (external 2 (ready 2)))).supervisor.stale = 0 := by decide

theorem test_tempSupply_mode : (after .tempSupply (withArgs 40 0 0 0 (ready 2))).host.status = .mode := by decide

theorem test_externalSensorTimeout_fires :
    (after .externalSensorTimeout (external 4 (cool 2))).supervisor.thermal = .hot ∧
    (after .externalSensorTimeout (external 4 (cool 2))).host.events = 0x0C0#10 := by decide

/-! ### The register window (Tables 10-1, 10-9 and 11-6) -/

/-- Table 10-9 before the write: context 0 in STRETCH, CQ_READY and LOG_READY set, CQ_READY masked. -/
def beforeReset : State :=
  let s := withLog [entry] [] (probing { probe .stretch 2 1 0 with stretchTimer := .running 256000 1 })
  { s with host := { s.host with events := 0x014#10, mask := 0x004#10, interrupt := true } }

theorem test_softReset_unwinds :
    let t := after (.softReset 1) beforeReset
    t.controller = some .resetting ∧ t.host.events = 0#10 ∧ t.host.interrupt = false ∧
    t.copy.queue.map CopyJob.kind = [.restore] ∧ t.probes.log = [] := by decide

theorem test_softReset_nothing_to_unwind :
    (after (.softReset 1) (cool 2)).controller = some .ready ∧ (after (.softReset 1) (cool 2)).host.events = 0x002#10 := by
  decide

/-- Right after a write that leaves nothing to unwind a LOG POP finds READY and an empty log (assumption 26); after one that
does, RESETTING. -/
theorem test_logPop_after_softReset :
    (after .logPop (after (.softReset 1) (withLog [entry] [] (cool 2)))).host.status = .empty ∧
    (after .logPop (after (.softReset 1) beforeReset)).host.status = .notReady := by decide

theorem test_unwindEnd_reset_done :
    let s := { cool 2 with controller := some .resetting }
    (after .unwindEnd s).controller = some .ready ∧ (after .unwindEnd s).host.events = 0x002#10 := by decide

/-- The host interface of Table 10-9 at event 6: HOST_ERROR and RESET_DONE set, RESET_DONE masked, HIRQ# low. -/
def signalled : State :=
  { ready 2 with host := { HostInterface.atReset with events := 0x00A#10, mask := 0x002#10, interrupt := true } }

theorem test_evtWrite_clears :
    (after (.evtWrite 0x000A) signalled).host.events = 0#10 ∧
    (after (.evtWrite 0x000A) signalled).host.interrupt = false := by decide

theorem test_evtMaskWrite_interrupts :
    (after (.evtMaskWrite 0x0008) signalled).host.interrupt = true ∧
    (after (.evtMaskWrite 0x0001) signalled).host.interrupt = false := by decide

theorem test_cfgTbaseWrite_bounds :
    (after (.cfgTbaseWrite 256) (ready 1)).config.tbaseWritten = 256 ∧
    (after (.cfgTbaseWrite 257) (ready 1)).host.error = .badConfig := by decide

theorem test_cfgPageWrite_fields :
    (after (.cfgPageWrite 0x8008) (ready 1)).config.rowLimit = 8 ∧
    (after (.cfgPageWrite 0x8008) (ready 1)).config.pageOpen = true ∧
    (after (.cfgPageWrite 0x0079) (ready 1)).host.error = .badConfig := by decide

theorem test_cfgEpochWrite_bounds :
    (after (.cfgEpochWrite 4096) (ready 1)).config.epochDivider = 4096 ∧
    (after (.cfgEpochWrite 0) (ready 1)).host.error = .badConfig := by decide

theorem test_cfgAgeWrite_bounds :
    (after (.cfgAgeWrite 200) (ready 1)).config.ageLimit = 200 ∧
    (after (.cfgAgeWrite 201) (ready 1)).host.error = .badConfig := by decide

theorem test_cfgWarmWrite_below_hot :
    (after (.cfgWarmWrite 0xFFD8) (ready 1)).config.warmEnter = -40 ∧
    (after (.cfgWarmWrite 85) (ready 1)).host.error = .badConfig := by decide

theorem test_cfgHotWrite_above_warm :
    (after (.cfgHotWrite 125) (ready 1)).config.hotEnter = 125 ∧
    (after (.cfgHotWrite 70) (ready 1)).host.error = .badConfig := by decide

theorem test_cfgModeWrite_changes_sensor_mode :
    (after (.cfgModeWrite 0x1105) (cool 1)).config.external = true ∧
    (after (.cfgModeWrite 0x1105) (cool 1)).config.autoRetire = true ∧
    (after (.cfgModeWrite 0x1105) (cool 1)).supervisor.thermal = .hot := by decide

theorem test_cfgModeWrite_hysteresis_zero :
    (after (.cfgModeWrite 0x1100) (cool 1)).host.error = .badConfig := by decide

theorem test_registerWrite_row_field :
    readRegister (after (.registerWrite 0x11 0xFFFF) (ready 1)) 0x11 = 0x03FF ∧
    after (.registerWrite 0x2A 0xFFFF) (ready 1) = ready 1 := by decide

theorem test_recordWrite_profile :
    let t := after .recordWrite (withArgs 0x0821 0 0 0x0025 (ready 2))
    recordOf t (row 0 37)
      = { status := .profiled, cls := 2, margin := 8, stamp := some 0, queued := false, spare := none } ∧
    t.host.status = .accepted := by decide

theorem test_recordWrite_spare_taken :
    let t := after .recordWrite (withArgs 0x0004 0 0x0002 0x0205 (ready 2))
    t.redirects = [(2, { home := row 0 517, state := .spareActive, owner := .command })] ∧
    (after .recordWrite (withArgs 0x0004 0 0x0002 0x0150 t)).host.status = .noReserve := by decide

theorem test_recordRead_retired :
    let s := setRecord (row 0 517)
      { status := .retired, cls := 0, margin := 0, stamp := none, queued := false, spare := some 2 } (ready 2)
    (after .recordRead (withArgs 0 0 0 0x0205 s)).host.results
      = { q0 := 0x0004, q1 := 0, q2 := 0x8002, q3 := 0x0205 } := by decide

theorem test_badCmd : (after (.badCmd 9) (ready 2)).host.status = .badCmd ∧ (after (.badCmd 9) (ready 2)).host.command = 9 := by
  decide

/-! ### Witnesses: a state that meets the hypotheses of each statement

The states of the laws' witnesses are not reset's: a probe runs, a row is retired, an entry is due and an access is on the
port. -/

/-- 0:5 PROBING, 0:6 RETIRED with spare 3, 0:7 PROFILED and queued. -/
def tabled : State :=
  setRecord (row 0 5) { status := .probing, cls := 0, margin := 0, stamp := none, queued := false, spare := none }
    (setRecord (row 0 6) { status := .retired, cls := 0, margin := 0, stamp := none, queued := false, spare := some 3 }
      (setRecord (row 0 7)
        { status := .profiled, cls := 1, margin := 5, stamp := some 2, queued := true, spare := none } (cool 2)))

/-- Two devices, READY, NORMAL. 0:5 is parked at index 2 by context 1 in STRETCH, 0:6 is retired to index 3, 0:7 is due, 0:9 is
open and being read, FORCED is set and HIRQ# is low. -/
def busy : State :=
  let s := onPort (.hostAccess (row 0 9) .read 0 4 [] true true)
    (setDevice 0 { openRow := some 9, timer := .running 120 7, closeClaim := false }
      (setRedirect 2 { home := row 0 5, state := .parkHeld, owner := .context 1 }
        (setRedirect 3 { home := row 0 6, state := .spareActive, owner := .command }
          (writeBytes (row 0 9) 0 [1, 2, 3, 4] tabled))))
  { s with
    host := { s.host with events := 0x004#10, mask := 0x004#10, interrupt := true }
    scheduler := { s.scheduler with
      serial := 0, pass := 1, pendingSlices := 1, forced := true, due := [⟨row 0 7, 65535⟩]
      cursor := some { serial := 0, pass := 1, device := 0, row := 16, paused := false } }
    requests := { s.requests with
      requests := [readRequest 1 (row 0 9) 4]
      access := some { target := row 0 9, redirected := false, discarded := false } }
    probes := { contexts := s.probes.contexts.set 1 { ProbeContext.atReset with
                  state := .stretch, target := row 0 5, step := 2, parkIndex := 2, stretchTimer := .running 256000 9
                  prior := some { status := .profiled, cls := 1, margin := 4, age := some 3 } }
                log := [entry], waiting := [] }
    pending := [.evtWrite 0x0004] }

theorem busy_records : busy.records = tabled.records := by
  simp [busy, onPort]

theorem busy_record (r : Row) : recordOf busy r =
    if r = row 0 5 then { status := .probing, cls := 0, margin := 0, stamp := none, queued := false, spare := none }
    else if r = row 0 6 then
      { status := .retired, cls := 0, margin := 0, stamp := none, queued := false, spare := some 3 }
    else if r = row 0 7 then
      { status := .profiled, cls := 1, margin := 5, stamp := some 2, queued := true, spare := none }
    else powerOnRecord r := by
  have h0 : recordOf (cool 2) r = powerOnRecord r := rfl
  rw [recordOf_congr busy_records]
  unfold tabled
  simp only [recordOf_setRecord, h0]

theorem busy_steps : step busy = .next (writeEvents 0x0004 { busy with pending := [] }) := rfl

theorem witness_tablesCanonical : tablesCanonical busy ∧ ∃ t, step busy = .next t := by
  refine ⟨⟨by decide, by decide, by decide, ?_⟩, _, busy_steps⟩
  rw [busy_records]
  exact setRecord_unlisted (setRecord_unlisted (setRecord_unlisted (by intro q; simp [cool, ready, State.reset]) _ _) _ _) _ _

theorem witness_interruptAndConfigurationLaws :
    interruptLaw busy ∧ configurationLaw busy ∧ ∃ t, step busy = .next t := by
  refine ⟨?_, ?_, _, busy_steps⟩
  · unfold interruptLaw; decide
  · unfold configurationLaw; decide

theorem witness_capacityLaw : capacityLaw busy ∧ ∃ t, step busy = .next t := by
  refine ⟨?_, _, busy_steps⟩
  unfold capacityLaw
  decide

theorem busy_dueQueueLaw : dueQueueLaw busy := by
  refine ⟨by decide, ?_, ?_⟩
  · intro r
    have e : busy.scheduler.due.map DueEntry.row = [row 0 7] := rfl
    rw [e, busy_record, List.mem_singleton]
    by_cases h7 : r = row 0 7
    · subst h7
      decide
    · rw [if_neg h7]
      simp only [h7, iff_false]
      split_ifs <;> simp [powerOnRecord]
  · intro r h
    have e : busy.scheduler.due.map DueEntry.row = [row 0 7] := rfl
    rw [e, List.mem_singleton] at h
    subst h
    decide

theorem witness_pendingLaw : pendingLaw busy ∧ ∃ t, step busy = .next t :=
  ⟨⟨by decide, by decide, by decide, by decide, by decide, by decide, by decide⟩, _, busy_steps⟩

/-- A part whose port is free because nothing claims it. -/
def quiet : State :=
  { cool 2 with pending := [.stageData 0x2211] }

theorem witness_neverIdle : neverIdle quiet ∧ quiet.port.operation = none ∧ ∃ t, step quiet = .next t :=
  ⟨fun _ => by decide, by decide, _, rfl⟩

theorem witness_enginesLaw : enginesLaw busy ∧ ∃ t, step busy = .next t := by
  refine ⟨?_, _, busy_steps⟩
  unfold enginesLaw
  decide

theorem witness_openRowLaw : openRowLaw busy ∧ ∃ t, step busy = .next t := by
  refine ⟨⟨by decide, ?_⟩, _, busy_steps⟩
  intro target kind column length bytes pageOpen h
  have e : busy.port.operation = some (.hostAccess (row 0 9) .read 0 4 [] true true) := rfl
  rw [e] at h
  cases h
  rfl

theorem busy_recordLaw : recordLaw busy := by
  refine ⟨by decide, ?_, ?_⟩
  · intro r
    by_cases h1 : r = row 0 5
    · subst h1; unfold recordFits; decide
    by_cases h2 : r = row 0 6
    · subst h2; unfold recordFits; decide
    by_cases h3 : r = row 0 7
    · subst h3; unfold recordFits; decide
    rw [busy_record, if_neg h1, if_neg h2, if_neg h3]
    unfold powerOnRecord recordFits
    by_cases h : isReservedRow r <;> simp [h, classAndMarginFit]
  · intro k
    refine ⟨?_, ?_, ?_⟩
    · unfold stepsFit
      fin_cases k <;> decide
    · intro p h
      fin_cases k
      · cases h
      · cases h
        decide
      · cases h
      · cases h
    · intro o h
      fin_cases k <;> cases h

theorem busy_probeLaw : probeLaw busy := by
  refine ⟨⟨by decide, by decide, by decide, by decide⟩, ⟨by decide, by decide, by decide, by decide, by decide⟩, by decide,
    ?_, ?_, ?_, by decide, by decide⟩
  · intro i e h
    fin_cases i <;> cases h <;> decide
  · intro home i h
    cases h
  · intro j h
    cases h

theorem witness_probeAndRedirectLaws : probeLaw busy ∧ ∃ t, step busy = .next t :=
  ⟨busy_probeLaw, _, busy_steps⟩

theorem witness_placeLaw : placeLaw busy ∧ ∃ t, step busy = .next t := by
  refine ⟨⟨busy_probeLaw, ?_, ?_, ?_, ?_⟩, _, busy_steps⟩
  · intro r
    rw [busy_record]
    split_ifs with h1 h2 h3
    · subst h1; decide
    · subst h2; decide
    · subst h3; decide
    · unfold powerOnRecord
      by_cases h : isReservedRow r <;> simp [h]
  · intro i e h
    fin_cases i <;> cases h <;> decide
  · intro r h
    rw [busy_record] at h
    split_ifs at h with h1 h2 h3
    · subst h1; decide
    · subst h2; decide
    · simp at h
    · unfold powerOnRecord at h
      by_cases h' : isReservedRow r <;> simp [h'] at h
  · intro k h1 h2
    fin_cases k
    · exact absurd h1 (by decide)
    · exact ⟨⟨_, rfl, by decide⟩, fun h => absurd h (by decide)⟩
    · exact absurd h1 (by decide)
    · exact absurd h1 (by decide)

theorem witness_dueQueueLaw : placeLaw busy ∧ dueQueueLaw busy ∧ ∃ t, step busy = .next t :=
  ⟨witness_placeLaw.1, busy_dueQueueLaw, _, busy_steps⟩

theorem witness_recordLaw : placeLaw busy ∧ recordLaw busy ∧ ∃ t, step busy = .next t :=
  ⟨witness_placeLaw.1, busy_recordLaw, _, busy_steps⟩

theorem witness_thermalLaw : thermalLaw busy ∧ ∃ t, step busy = .next t := by
  refine ⟨?_, _, busy_steps⟩
  unfold thermalLaw
  decide

/-- A READY part whose CQ is full while its head, a request for an absent device, waits in FAILED. -/
def failedWaiting : State :=
  let s := withRequests [readRequest 9 (row 3 0) 4] (cool 2)
  { s with
    requests := { s.requests with
      completions := List.replicate 16 { tag := 1, status := .ok, redirected := false, length := 1, data := none } }
    pending := [.evtWrite 0x0004] }

theorem witness_forcedAndFailedHeadLaws :
    (forcedLaw busy ∧ busy.scheduler.forced = true ∧ ∃ t, step busy = .next t) ∧
    failedHeadLaw failedWaiting ∧ headCondition failedWaiting = some .failed ∧ ∃ t, step failedWaiting = .next t :=
  ⟨⟨fun _ => by decide, by decide, _, busy_steps⟩, fun _ _ => by decide, by decide, _, rfl⟩

/-- Table 10-9 after event 2, context 0 bringing 1:40 home, the LOG READ of event 4 waiting. -/
def unwinding : State :=
  { after (.softReset 1) beforeReset with pending := [.logRead] }

theorem witness_unreadyLaw : unreadyLaw unwinding ∧ unwinding.controller = some .resetting ∧
    ∃ t, step unwinding = .next t := by
  refine ⟨⟨⟨⟨by decide, by decide, by decide, by decide⟩, ⟨by decide, by decide, by decide, by decide, by decide⟩,
    by decide, ?_, ?_, ?_, by decide, by decide⟩, by decide, by decide, by decide⟩, by decide, _, rfl⟩
  · intro i e h
    fin_cases i <;> first | (cases h; done) | (cases h; decide)
  · intro home i h
    cases h
  · intro j h
    rw [show unwinding.copy.queue = [{ kind := .restore, home := row 1 40, index := 0, owner := .context 0, progress := 0 }]
      from rfl, List.mem_singleton] at h
    subst h
    exact ⟨by decide, by decide, by decide, by decide, by decide⟩

/-! #### The machine, reset and the arbiter -/

theorem witness_IdleStepOnlyAdvancesTimers :
    (ready 1).pending = [] ∧ running (ready 1) = true ∧ (after .rstinAssert (ready 1)).pending = [] ∧
    running (after .rstinAssert (ready 1)) = false := by decide

theorem witness_ArrayAndConfigurationFrame :
    exec .cqData (completed 2) = .next (readCompletionData (completed 2)) ∧
    (∀ straps, Instr.cqData ≠ .rstinRelease straps) ∧ (∀ decay, Instr.cqData ≠ .hostAccessCompletion decay) ∧
    (∀ decay, Instr.cqData ≠ .copyBurstCompletion decay) ∧ (∀ decay, Instr.cqData ≠ .checkBurstCompletion decay) ∧
    Instr.cqData ≠ .patternBurstCompletion ∧ (∀ v, Instr.cqData ≠ .cfgTbaseWrite v) ∧
    (∀ a v, Instr.cqData ≠ .registerWrite a v) ∧ ∀ v, Instr.cqData ≠ .cfgModeWrite v :=
  ⟨rfl, nofun, nofun, nofun, nofun, nofun, nofun, nofun, nofun⟩

theorem witness_PowerOnReset : running (ready 4) = true := by decide

/-- A part of two devices in INIT with cycle `n` on the port. -/
def initialising (n : Nat) (r : Row) : State :=
  onPort (.initCycle r) { State.reset with
    controller := some .init, deviceCount := 2, port := { ArrayPort.atReset with pause := .stopped, initCycle := n } }

theorem witness_PauseAndInitialisationSequence :
    (State.reset.controller = some .powerup ∧ State.reset.port.operation = none ∧ 0 < State.reset.deviceCount ∧
      (recordOf State.reset { device := 0, number := 0 }).queued = false) ∧
    ((initialising 14 (row 1 6)).controller = some .init ∧
      (initialising 14 (row 1 6)).port.operation = some (.initCycle (row 1 6)) ∧
      (initialising 14 (row 1 6)).port.initCycle + 1 < 8 * (initialising 14 (row 1 6)).deviceCount) ∧
    ((initialising 15 (row 1 7)).port.operation = some (.initCycle (row 1 7)) ∧
      (initialising 15 (row 1 7)).deviceCount ≤ 4 ∧
      8 * (initialising 15 (row 1 7)).deviceCount ≤ (initialising 15 (row 1 7)).port.initCycle + 1) := by decide

/-- A CHECKING context whose claim alone waits. -/
def probeWaiting : State :=
  probing (probe .checking 2 1 0)

/-- A pattern burst of a context on the port. -/
def patterning (c : ProbeContext) (burst : Nat) : State :=
  onPort (.patternBurst 0 (row 1 40) burst (List.replicate 32 0)) (probing c)

theorem witness_GrantGivesPortToChosenClaim :
    (redirectLaw busy ∧ redirectAt busy 2 = some { home := row 0 5, state := .parkHeld, owner := .context 1 } ∧
      redirectAt busy 3 = some { home := row 0 6, state := .spareActive, owner := .command }) ∧
    ((loaded 0).requests.requests = [readRequest 1 (row 0 10) 16] ∧
      (loaded 0).scheduler.due = [⟨row 1 40, 65535⟩, ⟨row 0 56, 65535⟩] ∧
      (loaded 0).copy.queue = [{ kind := .park, home := row 1 300, index := 0, owner := .context 0, progress := 0 }] ∧
      (contextOf probeWaiting 0).state = .checking ∧
      (contextOf (patterning (probe .writing 2 1 7) 7) 0).state = .writing ∧ (initialising 14 (row 1 6)).port.initCycle < 32) ∧
    running (loaded 0) = true ∧ (loaded 0).port.operation = none ∧ chooseClaim (loaded 0) = some .request ∧
    chooseClaim (loaded 8) = some .copy ∧ chooseClaim probeWaiting = some (.probe 0) ∧
    chooseClaim (withDue [⟨row 0 14, 301⟩] (cool 4)) = some (.refresh true) :=
  ⟨⟨⟨by decide, by decide, by decide, by decide⟩, by decide, by decide⟩, by decide, by decide, by decide, by decide,
    by decide, by decide, by decide⟩

theorem witness_ArbiterChoosesFirstInOrder :
    claimRaised (loaded 0) .request = true ∧ Claim.grantable (loaded 0) .request = true ∧
    claimRaised (loaded 0) .copy = true ∧ claimRaised (loaded 0) (.refresh false) = true := by decide

/-- A part whose records are all as after power-on and whose due queue is empty keeps the law of the due queue. -/
theorem dueQueueLaw_of_empty {s : State} (h1 : s.scheduler.due = []) (h2 : ∀ r, (recordOf s r).queued = false) :
    dueQueueLaw s := by
  unfold dueQueueLaw
  rw [h1]
  simp [h2]

/-- Grant 3 of Table 2-4: a READ of 0:56, which is due behind 1:40. -/
def credited : State :=
  withRequests [readRequest 1 (row 0 56) 16] (withDue [⟨row 1 40, 65535⟩, ⟨row 0 56, 65535⟩] (cool 2))

theorem credited_dueQueueLaw : dueQueueLaw credited := by
  have e : credited.scheduler.due.map DueEntry.row = [row 1 40, row 0 56] := rfl
  have hr : ∀ r, recordOf credited r = if r = row 0 56 then { powerOnRecord r with queued := true }
      else if r = row 1 40 then { powerOnRecord r with queued := true } else powerOnRecord r := by
    intro r
    by_cases h1 : r = row 0 56
    · subst h1; decide
    by_cases h2 : r = row 1 40
    · subst h2; decide
    have h0 : recordOf (cool 2) r = powerOnRecord r := rfl
    have h : credited.records = (appendDue (row 0 56) 65535 (appendDue (row 1 40) 65535 (cool 2))).records := by
      simp [credited, withRequests, withDue]
    rw [recordOf_congr h]
    simp only [recordOf_appendDue, if_neg h1, if_neg h2, h0]
  refine ⟨by rw [e]; decide, ?_, ?_⟩
  · intro r
    rw [e, hr]
    simp only [List.mem_cons, List.not_mem_nil, or_false]
    by_cases h1 : r = row 0 56
    · simp [h1]
    · by_cases h2 : r = row 1 40
      · simp [h2]
      · simp [h1, h2, powerOnRecord]
  · intro r h
    rw [e] at h
    simp only [List.mem_cons, List.not_mem_nil, or_false] at h
    rcases h with rfl | rfl <;> decide

theorem witness_GrantCreditsActivatedRows :
    dueQueueLaw credited ∧ running credited = true ∧ credited.port.operation = none ∧
    chooseClaim credited = some .request ∧
    descriptor credited .request = some (.hostAccess (row 0 56) .read 0 16 [] false false) ∧
    exec .grant credited = .next (arbitrate credited) :=
  ⟨credited_dueQueueLaw, by decide, by decide, by decide, by decide, rfl⟩

theorem witness_RowRefreshAndRowCloseCompletions :
    running refreshing = true ∧ refreshing.port.operation = some (.rowRefresh (row 2 36)) ∧
    running (onPort (.rowClose 3) (cool 4)) = true ∧
    (onPort (.rowClose 3) (cool 4)).port.operation = some (.rowClose 3) := by decide

/-- Device 3 open with its timer at its end, the port free. -/
def openRow3 : State :=
  setDevice 3 { openRow := some 100, timer := .running 120 120, closeClaim := false } (cool 4)

theorem witness_OpenRowTimerExpiryRaisesCloseClaim :
    running openRow3 = true ∧ (deviceState openRow3 3).timer = .running 120 120 ∧ openRow3.port.operation = none ∧
    openRow3.controller = some .ready ∧ ∀ e : DeviceId, e < 3 → (deviceState openRow3 e).closeClaim = false := by decide

/-! #### Host requests -/

/-- The access of `reading` marked discarded by a soft reset. -/
def readingDiscarded : State :=
  { reading with requests := { reading.requests with
      requests := [], access := some { target := row 0 100, redirected := false, discarded := true } } }

theorem witness_HostAccessCompletionEndsHead :
    (running reading = true ∧ reading.port.operation = some (.hostAccess (row 0 100) .read 0 2 [] true false) ∧
      reading.requests.access = some { target := row 0 100, redirected := false, discarded := false } ∧
      reading.requests.requests = [readRequest 1 (row 0 100) 2]) ∧
    (running readingDiscarded = true ∧
      readingDiscarded.port.operation = some (.hostAccess (row 0 100) .read 0 2 [] true false) ∧
      readingDiscarded.requests.access = some { target := row 0 100, redirected := false, discarded := true }) := by
  decide

theorem witness_HostAccessCompletionOnArray :
    (running reading = true ∧ decayWellFormed [(0, 0x55), (255, 0xAA)] = true ∧
      reading.port.operation = some (.hostAccess (row 0 100) .read 0 2 [] true false)) ∧
    (onPort (.hostAccess (row 0 100) .write 254 2 [1, 2] true true) reading).port.operation
      = some (.hostAccess (row 0 100) .write 254 2 [1, 2] true true) ∧
    (onPort (.hostAccess (row 0 100) .fill 240 16 (List.replicate 16 7) false true) reading).port.operation
      = some (.hostAccess (row 0 100) .fill 240 16 (List.replicate 16 7) false true) := by decide

theorem witness_FailedHeadCompletesWithoutPort :
    let s := withRequests [readRequest 8 (row 1 1022) 32, readRequest 9 (row 0 5) 33, readRequest 10 (row 0 5) 32] (cool 2)
    running s = true ∧ liveAccess s = false ∧ s.requests.completions.length < 16 ∧
    requestFailure s.deviceCount (readRequest 8 (row 1 1022) 32) = some .reserved ∧
    requestFailure 2 (readRequest 9 (row 0 5) 33) = some .bounds ∧
    requestFailure 2 (readRequest 9 (row 2 5) 33) = some .nodev ∧
    requestFailure 2 (readRequest 10 (row 0 5) 32) = none := by decide

theorem witness_PostAccepted :
    (isReady (staged 5) = true ∧ (staged 5).requests.requests.length < 16 ∧
      RequestKind.ofField (staged 5).requests.kindField = some .write ∧ 5 ≤ (staged 5).requests.staging.length ∧
      (staged 5).requests.requests = []) ∧
    (isReady (withRequests [readRequest 1 (row 0 0) 1] (staged 6)) = true ∧
      (withRequests [readRequest 1 (row 0 0) 1] (staged 6)).requests.requests ≠ [] ∧
      6 ≤ (withRequests [readRequest 1 (row 0 0) 1] (staged 6)).requests.staging.length) ∧
    (isReady (staged 33) = true ∧ (staged 33).requests.requests = [] ∧ liveAccess (staged 33) = false ∧
      (staged 33).requests.completions.length < 16 ∧
      requestFailure (staged 33).deviceCount
        { tag := 7, kind := .write, row := row 1 200, column := 0, length := 33, fill := none, data := none }
        = some .bounds) ∧
    (let s := { staged 33 with requests := { (staged 33).requests with
        completions := List.replicate 16 { tag := 1, status := .ok, redirected := false, length := 1, data := none } } };
      isReady s = true ∧ s.requests.requests = [] ∧ 16 ≤ s.requests.completions.length ∧ liveAccess s = false ∧
        headCondition (after (.rqPost 0) s) = some .failed) := by decide

theorem witness_PostRejected :
    (running unwinding = true ∧ isReady unwinding = false) ∧
    (isReady (withRequests (List.replicate 16 (readRequest 1 (row 0 0) 1)) (ready 1)) = true ∧
      16 ≤ (withRequests (List.replicate 16 (readRequest 1 (row 0 0) 1)) (ready 1)).requests.requests.length) ∧
    (let s := { ready 1 with requests := { RequestEngine.atReset with kindField := 3 } };
      isReady s = true ∧ s.requests.requests.length < 16 ∧ 3 ≤ s.requests.kindField.toNat) ∧
    (isReady (staged 7) = true ∧ (staged 7).requests.requests.length < 16 ∧ (staged 7).requests.kindField.toNat = 1 ∧
      1 ≤ (staged 7).requests.lengthField.toNat ∧ (staged 7).requests.lengthField.toNat ≤ 32 ∧
      (staged 7).requests.staging.length < (staged 7).requests.lengthField.toNat) := by decide

/-- With `n` bytes staged. -/
def stagedBytes (n : Nat) : State :=
  { ready 1 with requests := { RequestEngine.atReset with staging := List.replicate n 0 } }

theorem witness_StageDataWrite :
    (isReady (stagedBytes 62) = true ∧ (stagedBytes 62).requests.staging.length ≤ 62) ∧
    (isReady (stagedBytes 63) = true ∧ 63 ≤ (stagedBytes 63).requests.staging.length) ∧
    running unwinding = true ∧ isReady unwinding = false := by decide

theorem witness_CompletionDataReadAndPop :
    running (completed 4) = true ∧ (completed 4).requests.completions ≠ [] ∧
    running (after .rstinAssert (ready 1)) = false ∧ running (ready 1) = true ∧
    (ready 1).requests.completions = [] := by decide

/-! #### Refresh scheduling -/

/-- The slice timer at its end with a serial, a pending-slice count and a cursor of serial 0. -/
def slices (serial pending : Nat) : State :=
  { ready 2 with
    scheduler := { Scheduler.atReset with
      sliceTimer := .running 8000 8000, serial := serial, pendingSlices := pending
      cursor := if pending = 0 then none else some { serial := 0, pass := 1, device := 0, row := 0, paused := false } } }

theorem witness_SliceTimerExpiry :
    (running (slices 14 15) = true ∧ (slices 14 15).scheduler.sliceTimer = .running 8000 8000 ∧
      (slices 14 15).scheduler.pendingSlices = 15) ∧
    (running (slices 13 14) = true ∧ (slices 13 14).scheduler.pendingSlices < 15 ∧
      ((slices 13 14).scheduler.serial + 1) % 65536 % 16 ≠ 0 ∧ 0 < (slices 13 14).scheduler.pendingSlices) ∧
    ((slices 65535 0).scheduler.pendingSlices = 0 ∧ ((slices 65535 0).scheduler.serial + 1) % 65536 % 16 = 0 ∧
      (slices 65535 0).config.external = false ∧ (slices 65535 0).supervisor.conversion = .idle ∧
      (slices 65535 0).scheduler.due = []) ∧
    ((external 2 (slices 15 0)).config.external = true ∧ (external 2 (slices 15 0)).supervisor.stale < 3 ∧
      ((external 2 (slices 15 0)).scheduler.serial + 1) % 65536 % 16 = 0) ∧
    (let s := { slices 15 0 with supervisor := { Supervisor.atReset with conversion := .converting false } };
      running s = true ∧ s.scheduler.sliceTimer = .running 8000 8000 ∧ (s.scheduler.serial + 1) % 65536 % 16 = 0 ∧
        s.config.external = false ∧ s.supervisor.conversion ≠ .idle) ∧
    (∃ e rest, behind.scheduler.due = e :: rest ∧ 2 ≤ ((behind.scheduler.serial + 1) % 65536 + 65536 - e.stamp) % 65536) :=
  ⟨by decide, by decide, by decide, by decide, by decide, _, _, rfl, by decide⟩

theorem witness_HeldExpiryForcedClearAndUnwindEnd :
    (let s := { slices 13 14 with scheduler := { (slices 13 14).scheduler with sliceTimer := .expired } };
      running s = true ∧ s.scheduler.sliceTimer = .expired ∧ s.scheduler.pendingSlices < 15 ∧
        0 < s.scheduler.pendingSlices) ∧
    (let s := { slices 15 14 with scheduler := { (slices 15 14).scheduler with sliceTimer := .expired } };
      s.scheduler.sliceTimer = .expired ∧ s.scheduler.pendingSlices < 15 ∧ (s.scheduler.serial + 1) % 65536 % 16 = 0) ∧
    (let s := withDue [⟨row 0 14, 65535⟩] (cool 4);
      running s = true ∧ s.scheduler.pendingSlices = 0 ∧ ∀ e ∈ s.scheduler.due, e.stamp = s.scheduler.serial) ∧
    (let s := withDue [⟨row 0 14, 65534⟩] (cool 4);
      running s = true ∧ ∃ e ∈ s.scheduler.due, e.stamp ≠ s.scheduler.serial) ∧
    (let s : State := { cool 2 with
        controller := some .resetting, redirects := [(2, { home := row 0 517, state := .spareActive, owner := .command })] };
      s.controller = some .resetting ∧ s.copy.queue = [] ∧
        ∀ p ∈ s.redirects, p.2.state = .spareCopying ∨ p.2.state = .spareActive) := by decide

/-- A visit of a row of a device in the scan of a slice, with a pending-slice count, a slice timer and a due queue. -/
def visit (d : DeviceId) (n : RowNumber) (pending : Nat) (timer : Timer) (due : Nat) : State :=
  { cool 2 with
    scheduler := { Scheduler.atReset with
      sliceTimer := timer, serial := 14, pendingSlices := pending, due := List.replicate due ⟨row 0 0, 0⟩
      cursor := some { serial := n.val % 16, pass := 1, device := d, row := n, paused := false } } }

theorem witness_ScanVisitDecidesAndMovesOn :
    (let s := visit 0 5 1 (.running 8000 1) 0;
      running s = true ∧ s.scheduler.cursor = some { serial := 5, pass := 1, device := 0, row := 5, paused := false } ∧
        s.scheduler.due.length < 512) ∧
    512 ≤ (visit 0 5 1 (.running 8000 1) 512).scheduler.due.length ∧
    (1024 ≤ (1008 : RowNumber).val + 16 ∧ (0 : DeviceId).val + 1 < (visit 0 1008 1 (.running 8000 1) 0).deviceCount) ∧
    ((visit 1 1023 1 (.running 8000 1) 0).deviceCount ≤ (1 : DeviceId).val + 1 ∧
      (visit 1 1023 1 (.running 8000 1) 0).scheduler.sliceTimer ≠ .expired) ∧
    ((visit 1 1023 15 .expired 0).scheduler.sliceTimer = .expired ∧
      (visit 1 1023 15 .expired 0).scheduler.pendingSlices = 15) ∧
    (let v := visit 1 1023 1 (.running 8000 1) 0;
      let s := { v with scheduler := { v.scheduler with forced := true } };
      running s = true ∧ s.scheduler.sliceTimer ≠ .expired ∧ s.scheduler.forced = true ∧
        (after .scanVisit s).scheduler.pendingSlices = 0) :=
  ⟨by decide, le_of_eq (List.length_replicate (n := 512) (a := (⟨row 0 0, 0⟩ : DueEntry))).symm, by decide, by decide, by decide,
    by decide⟩

/-! #### Copies and probes -/

/-- Burst 6 of the RETIRE job of Table 6-4 on the port. -/
def retiringEarlier : State :=
  let s := onPort (.copyBurst (row 0 517) (row 1 1022) 6) retiring
  { s with copy := { s.copy with
      queue := [{ kind := .retire, home := row 0 517, index := 2, owner := .command, progress := 6 }] } }

theorem witness_CopyBurstMovesColumns :
    (running discarding = true ∧ (3 : Nat) < 8 ∧ row 0 300 ≠ row 1 1022 ∧ decayWellFormed [(96, 1), (127, 2)] = true ∧
      discarding.port.operation = some (.copyBurst (row 0 300) (row 1 1022) 3) ∧
      discarding.copy.engine = .copying true) ∧
    (running retiringEarlier = true ∧ retiringEarlier.port.operation = some (.copyBurst (row 0 517) (row 1 1022) 6) ∧
      retiringEarlier.copy.engine = .copying false ∧
      ∃ j rest, retiringEarlier.copy.queue = j :: rest ∧ j.progress < 7) :=
  ⟨by decide, by decide, by decide, by decide, _, _, rfl, by decide⟩

/-- Burst 7 of a job of context 0 for 1:40 at index 0 on the port. -/
def lastBurst (kind : JobKind) (source target : Row) (entry : RedirectState) (c : ProbeContext) (s : State) : State :=
  let t := onPort (.copyBurst source target 7)
    (setContext 0 c (setRedirect 0 { home := row 1 40, state := entry, owner := .context 0 } s))
  { t with
    copy := { t.copy with
      queue := [{ kind := kind, home := row 1 40, index := 0, owner := .context 0, progress := 7 }]
      engine := .copying false } }

/-- Table 7-4 at event 2. -/
def parking : State :=
  lastBurst .park (row 1 40) (row 0 1022) .parkCopying (probe .parking 2 1 0) (cool 2)

theorem witness_ParkJobCompletion :
    dueQueueLaw parking ∧ running parking = true ∧
    parking.port.operation = some (.copyBurst (row 1 40) (row 0 1022) 7) ∧ parking.copy.engine = .copying false ∧
    parking.copy.queue = [{ kind := .park, home := row 1 40, index := 0, owner := .context 0, progress := 7 }] ∧
    (contextOf parking 0).state = .parking ∧ (contextOf parking 0).target = row 1 40 ∧
    redirectAt parking 0 = some { home := row 1 40, state := .parkCopying, owner := .context 0 } ∧
    (7 : Nat) < 8 ∧ row 1 40 ≠ row 0 1022 ∧ decayWellFormed [(224, 1), (255, 2)] = true :=
  ⟨dueQueueLaw_of_empty rfl (fun _ => rfl), by decide, by decide, by decide, by decide, by decide, by decide, by decide,
    by decide, by decide, by decide⟩

/-- Table 7-4 at event 12, a restore with an outcome; and one of an abort. -/
def restoring (c : ProbeContext) (s : State) : State :=
  lastBurst .restore (row 0 1022) (row 1 40) .parkRestoring c s

/-- A context in RESTORING whose probe finished with PROFILED, class 1, margin 4. -/
def finishedContext : ProbeContext :=
  { probe .restoring 8 2 8 with
    outcome := some { name := .profiled, record := some (profiledOutcome 1 4) }, lastPassed := 4 }

theorem witness_RestoreJobCompletion :
    (let s := restoring finishedContext (cool 2);
      running s = true ∧ s.port.operation = some (.copyBurst (row 0 1022) (row 1 40) 7) ∧
        s.copy.engine = .copying false ∧
        s.copy.queue = [{ kind := .restore, home := row 1 40, index := 0, owner := .context 0, progress := 7 }] ∧
        (contextOf s 0).state = .restoring ∧ (contextOf s 0).target = row 1 40 ∧
        (contextOf s 0).outcome.bind PendingOutcome.record = some (profiledOutcome 1 4) ∧ s.probes.log.length < 8 ∧
        row 0 1022 ≠ row 1 40 ∧ decayWellFormed [(224, 1), (255, 2)] = true) ∧
    (let s := restoring { finishedContext with abortReason := some .host, outcome := none }
        (withLog (List.replicate 8 entry) [] (cool 2));
      (contextOf s 0).state = .restoring ∧ 8 ≤ s.probes.log.length ∧ (contextOf s 0).prior.isSome = true) ∧
    (let s := restoring { finishedContext with abortReason := some .reset, outcome := none }
        { cool 2 with controller := some .resetting };
      running s = true ∧ (contextOf s 0).abortReason = some .reset ∧ s.controller = some .resetting ∧
        ∀ p ∈ s.redirects, p.1 = 0 ∨ p.2.state.isPark = false) := by decide

theorem retiring_dueQueueLaw : dueQueueLaw retiring := by
  refine dueQueueLaw_of_empty rfl fun r => ?_
  have h : retiring.records = (setRecord (row 0 517)
      { status := .suspect, cls := 0, margin := 1, stamp := none, queued := false, spare := none } (cool 2)).records := by
    simp [retiring, onPort]
  rw [recordOf_congr h, recordOf_setRecord]
  split_ifs <;> rfl

theorem witness_RetireJobCompletion :
    dueQueueLaw retiring ∧ running retiring = true ∧
    retiring.port.operation = some (.copyBurst (row 0 517) (row 1 1022) 7) ∧ retiring.copy.engine = .copying false ∧
    retiring.copy.queue = [{ kind := .retire, home := row 0 517, index := 2, owner := .command, progress := 7 }] ∧
    redirectAt retiring 2 = some { home := row 0 517, state := .spareCopying, owner := .command } ∧
    row 0 517 ≠ row 1 1022 ∧ decayWellFormed [(224, 1), (255, 2)] = true :=
  ⟨retiring_dueQueueLaw, by decide, by decide, by decide, by decide, by decide, by decide, by decide⟩

theorem witness_PatternBurstAndStretchExpiry :
    (running (patterning (probe .writing 2 1 7) 7) = true ∧
      (patterning (probe .writing 2 1 7) 7).port.operation
        = some (.patternBurst 0 (row 1 40) 7 (List.replicate 32 0)) ∧ (List.replicate 32 (0 : Byte)).length = 32) ∧
    (patterning (probe .restoring 2 1 3) 3).port.operation = some (.patternBurst 0 (row 1 40) 3 (List.replicate 32 0)) ∧
    (running busy = true ∧ (contextOf busy 1).state = .stretch ∧
      (contextOf busy 1).stretchTimer = .running 256000 9) := by decide

theorem witness_CheckBurstCountsDifferingColumns :
    (running (checking (probe .checking 8 2 6) 6) = true ∧
      (checking (probe .checking 8 2 6) 6).port.operation
        = some (.checkBurst 0 (row 1 40) 6 (List.replicate 32 0)) ∧ decayWellFormed [(192, 1), (223, 1)] = true ∧
      (contextOf (checking (probe .checking 8 2 6) 6) 0).burstsDone < 7) ∧
    (contextOf (checking (probe .restoring 8 2 7) 7) 0).state ≠ .checking ∧
    (checking (probe .restoring 8 2 7) 7).port.operation
      = some (.checkBurst 0 (row 1 40) 7 (List.replicate 32 0)) := by decide

/-- The last check burst of a trial at a step. -/
def trialEnd (step trial mismatch : Nat) : State :=
  checking { probe .checking step trial 7 with mismatch := mismatch } 7

theorem witness_TrialEndAtEighthCheckBurst :
    (running (trialEnd 2 1 0) = true ∧
      (trialEnd 2 1 0).port.operation = some (.checkBurst 0 (row 1 40) 7 (List.replicate 32 0)) ∧
      (contextOf (trialEnd 2 1 0) 0).state = .checking ∧ (contextOf (trialEnd 2 1 0) 0).burstsDone = 7 ∧
      redirectAt (trialEnd 2 1 0) (contextOf (trialEnd 2 1 0) 0).parkIndex
        = some { home := row 1 40, state := .parkHeld, owner := .context 0 } ∧
      (contextOf (trialEnd 2 1 0) 0).target = row 1 40 ∧ decayWellFormed [(224, 1), (255, 2)] = true) ∧
    ((contextOf (after (.checkBurstCompletion []) (trialEnd 2 1 0)) 0).trial = 2 ∧
      (contextOf (after (.checkBurstCompletion []) (trialEnd 8 2 0)) 0).step = 16 ∧
      (contextOf (after (.checkBurstCompletion []) (trialEnd 16 2 0)) 0).state = .restoring ∧
      (contextOf (after (.checkBurstCompletion []) (trialEnd 2 1 9)) 0).state = .restoring) ∧
    (let s := { trialEnd 2 1 9 with config := { (trialEnd 2 1 9).config with autoRetire := true } };
      (contextOf (after (.checkBurstCompletion []) s) 0).state = .idle ∧
        (contextOf (after (.checkBurstCompletion []) (withLog (List.replicate 8 entry) [] s)) 0).state = .done) := by decide

theorem witness_AllowedClassIsLargestGuarded : allowedClass 1 = none ∧ allowedClass 2 = some 0 ∧
    allowedClass 15 = some 2 ∧ allowedClass 16 = some 3 := by decide

/-- A context that finished a CHECK of a step from a prior record. -/
def checkFinished (step : Nat) (prior : PriorRecord) : ProbeContext :=
  { probe .checking step 1 8 with mode := .check, lastPassed := step, prior := some prior }

theorem witness_ProbeOutcomesFollowTables :
    ((probe .checking 4 2 8).mode = .search ∧ allowedClass { probe .checking 4 2 8 with lastPassed := 4 }.lastPassed = some 1) ∧
    ({ checkFinished 1 ⟨.profiled, 2, 8, some 0⟩ with failingStep := some 2 }.failingStep = some 2) ∧
    (2 ^ (2 + 1) ≤ (checkFinished 8 ⟨.profiled, 2, 8, some 0⟩).lastPassed ∧
      (checkFinished 8 ⟨.profiled, 2, 8, some 0⟩).failingStep = none) ∧
    ((checkFinished 7 ⟨.profiled, 2, 8, some 0⟩).lastPassed < 2 ^ (2 + 1) ∧ allowedClass 7 = some 1) ∧
    ((checkFinished 1 ⟨.suspect, 0, 1, none⟩).lastPassed = 1 ∧
      (checkFinished 1 ⟨.unprofiled, 0, 0, none⟩).lastPassed = 1) := by decide

theorem witness_PatternBytesOfBurst :
    (probe .writing 2 1 7).pattern ≠ .lfsr ∧ { probe .writing 2 1 7 with pattern := .lfsr }.pattern = .lfsr ∧
    (1 : BitVec 15) ≠ 0 := by decide

/-! #### The log, the temperature and the window -/

theorem witness_LogReadPopAndWaitAppend :
    (running unwinding = true ∧ isReady unwinding = false) ∧
    (isReady (ready 2) = true ∧ (ready 2).probes.log = []) ∧
    (isReady (withLog [entry] [] (ready 2)) = true ∧ (withLog [entry] [] (ready 2)).probes.log = [entry] ∧
      (withLog [entry] [] (ready 2)).probes.waiting = []) ∧
    (let s := withLog (entry :: List.replicate 7 entry) [1, 2] (ready 2);
      isReady s = true ∧ s.probes.waiting = [1, 2] ∧ (List.replicate 7 entry).length < 8) ∧
    (let s := withLog (List.replicate 7 entry) [2] (ready 2);
      running s = true ∧ s.probes.waiting = [2] ∧ s.probes.log.length < 8) := by decide

/-- Context 1 of Table 11-5 in PARKING, its PARK job at the head with burst 3 on the port. -/
def parkingAborted : State :=
  let s := onPort (.copyBurst (row 0 300) (row 1 1022) 3)
    (setContext 1 { ProbeContext.atReset with state := .parking, target := row 0 300, parkIndex := 2 }
      (setRedirect 2 { home := row 0 300, state := .parkCopying, owner := .context 1 } (withArgs 1 0 0 0 (cool 2))))
  { s with
    copy := { s.copy with
      queue := [{ kind := .park, home := row 0 300, index := 2, owner := .context 1, progress := 3 }]
      engine := .copying false } }

theorem parkingAborted_probeLaw : probeLaw parkingAborted := by
  refine ⟨⟨by decide, by decide, by decide, by decide⟩, ⟨by decide, by decide, by decide, by decide, by decide⟩,
    by decide, ?_, ?_, ?_, by decide, by decide⟩
  · intro i e h
    fin_cases i <;> cases h
    decide
  · intro home i h
    cases h
  · intro j h
    rw [show parkingAborted.copy.queue
      = [{ kind := .park, home := row 0 300, index := 2, owner := .context 1, progress := 3 }] from rfl,
      List.mem_singleton] at h
    subst h
    exact ⟨by decide, by decide, by decide, by decide, by decide⟩

/-- The same with context 0 in WRITING for 1:40, room for one log entry, a conversion in progress and the thermal state WARM. -/
def heating : State :=
  let s := withLog (List.replicate 7 entry) [] (setContext 0 (probe .writing 2 1 0)
    (setRedirect 0 { home := row 1 40, state := .parkHeld, owner := .context 0 } parkingAborted))
  { s with supervisor := { s.supervisor with
      conversion := .converting false, window := [80, 84, 90, 90], thermal := .warm } }

theorem heating_probeLaw : probeLaw heating := by
  refine ⟨⟨by decide, by decide, by decide, by decide⟩, ⟨by decide, by decide, by decide, by decide, by decide⟩,
    by decide, ?_, ?_, ?_, by decide, by decide⟩
  · intro i e h
    fin_cases i <;> cases h <;> decide
  · intro home i h
    cases h
  · intro j h
    rw [show heating.copy.queue
      = [{ kind := .park, home := row 0 300, index := 2, owner := .context 1, progress := 3 }] from rfl,
      List.mem_singleton] at h
    subst h
    exact ⟨by decide, by decide, by decide, by decide, by decide⟩

/-- Table 11-5: the entry into HOT abandons the park of context 1, whose burst on the port stays, and brings 1:40 home. -/
theorem test_entry_into_hot_aborts_probes :
    let t := after (.conversionCompletion 90) heating
    (contextOf t 1).state = .idle ∧ (contextOf t 0).state = .restoring ∧ (contextOf t 0).abortReason = some .thermal ∧
    t.copy.queue.map CopyJob.kind = [.restore] ∧ t.copy.engine = .copying true ∧ redirectAt t 2 = none ∧
    (t.probes.log.getLast?.map LogEntry.abortReason) = some (some .thermal) ∧ t.host.events = 0x050#10 := by decide

theorem witness_ReadingsMoveThermalState :
    (running (converting [46, 60, 72, 78] .normal) = true ∧
      (converting [46, 60, 72, 78] .normal).supervisor.conversion = .converting false ∧
      (4 * 72 : Int) ≤ [(60 : Int), 72, 78, 80].sum ∧ [(60 : Int), 72, 78, 80].sum < 4 * 72 + 4) ∧
    (let s := { ready 2 with supervisor := { Supervisor.atReset with conversion := .converting true } };
      running s = true ∧ s.supervisor.conversion = .converting true) ∧
    (isReady (external 2 (ready 2)) = true ∧ (external 2 (ready 2)).config.external = true) ∧
    (running heating = true ∧ heating.supervisor.conversion = .converting false ∧ probeLaw heating ∧
      (after (.conversionCompletion 90) heating).supervisor.thermal = .hot) ∧
    (let s := withArgs 90 0 0 0 (external 2 heating);
      isReady s = true ∧ s.config.external = true ∧ probeLaw s ∧ (after .tempSupply s).supervisor.thermal = .hot) :=
  ⟨by decide, by decide, by decide, ⟨by decide, by decide, heating_probeLaw, by decide⟩,
    by decide, by decide, heating_probeLaw, by decide⟩

theorem witness_ExternalSensorTimeout :
    (running (external 4 (cool 2)) = true ∧ (external 4 (cool 2)).config.external = true ∧
      4 ≤ (external 4 (cool 2)).supervisor.stale) ∧
    (let s := external 3 (slices 15 0);
      running s = true ∧ s.config.external = true ∧ s.supervisor.stale = 3 ∧
        s.scheduler.sliceTimer = .running 8000 8000 ∧ s.scheduler.pendingSlices < 15 ∧
        (s.scheduler.serial + 1) % 65536 % 16 = 0) ∧
    (running (external 4 heating) = true ∧ (external 4 heating).config.external = true ∧
      4 ≤ (external 4 heating).supervisor.stale ∧ (external 4 heating).supervisor.thermal ≠ .hot ∧
      probeLaw (external 4 heating)) ∧
    (let s := external 3 { heating with scheduler := (slices 15 0).scheduler };
      running s = true ∧ s.config.external = true ∧ s.supervisor.stale = 3 ∧
        s.scheduler.sliceTimer = .running 8000 8000 ∧ s.scheduler.pendingSlices < 15 ∧
        (s.scheduler.serial + 1) % 65536 % 16 = 0 ∧ s.supervisor.thermal ≠ .hot ∧ probeLaw s) :=
  ⟨by decide, by decide, ⟨by decide, by decide, by decide, by decide, heating_probeLaw⟩,
    by decide, by decide, by decide, by decide, by decide, by decide, by decide, heating_probeLaw⟩

theorem beforeReset_probeLaw : probeLaw beforeReset := by
  refine ⟨⟨by decide, by decide, by decide, by decide⟩, ⟨by decide, by decide, by decide, by decide, by decide⟩,
    by decide, ?_, ?_, ?_, by decide, by decide⟩
  · intro i e h
    fin_cases i <;> cases h
    decide
  · intro home i h
    cases h
  · intro j h
    cases h

theorem witness_SoftResetWrite :
    probeLaw beforeReset ∧ isReady beforeReset = true ∧ (1 : Word).getLsbD 0 = true ∧
    isReady unwinding = false ∧ (0xFFFE : Word).getLsbD 0 = false ∧
    probeLaw parkingAborted ∧ isReady parkingAborted = true ∧ parkingAborted.copy.engine = .copying false :=
  ⟨beforeReset_probeLaw, by decide, by decide, by decide, by decide, parkingAborted_probeLaw, by decide, by decide⟩

theorem witness_EventAndMaskWrites : running signalled = true := by decide

theorem witness_ConfigurationWrites :
    running (cool 1) = true ∧ (0x1100 : Word).toNat % 16 = 0 ∧ (0x000F : Word).toNat % 16 ≠ 0 ∧
    (0x000F : Word).getLsbD 8 = (cool 1).config.external ∧ (0x0101 : Word).getLsbD 8 ≠ (cool 1).config.external ∧
    (0x0101 : Word).toNat % 16 ≠ 0 ∧ running heating = true ∧ (0x0101 : Word).getLsbD 8 ≠ heating.config.external ∧
    heating.supervisor.thermal ≠ .hot ∧ probeLaw heating :=
  ⟨by decide, by decide, by decide, by decide, by decide, by decide, by decide, by decide, by decide, heating_probeLaw⟩

theorem witness_PlainRegisterWrites :
    running (ready 1) = true ∧ plainRegisterWrite 0x10 0xFFFF = true ∧ plainRegisterWrite 0x14 0xFFFF = true ∧
    plainRegisterWrite 0x22 0xFFFF = true ∧ plainRegisterWrite 0x29 0xFFFF = true ∧
    plainRegisterWrite 0x05 0xFFFE = true ∧ plainRegisterWrite 0x3F 0xFFFF = true ∧
    plainRegisterWrite 0x00 0xFFFF = true ∧
    (running (completed 2) = true ∧ (completed 2).requests.completions ≠ [] ∧ (ready 1).requests.completions = [] ∧
      (ready 1).controller = some .ready ∧ (ready 1).supervisor.window.length < 4) ∧
    (running heating = true ∧ 4 ≤ heating.supervisor.window.length ∧
      (4 * 86 : Int) ≤ heating.supervisor.window.sum ∧ heating.supervisor.window.sum < 4 * 86 + 4) ∧
    (0x1C : BitVec 6) ∈ ([0x05, 0x0D, 0x0E, 0x0F, 0x15, 0x16, 0x1C, 0x1D, 0x1E, 0x1F, 0x2E, 0x2F] : List (BitVec 6)) ∧
    running (after .rstinAssert (ready 1)) = false := by decide

/-! #### The command unit -/

/-- A state in which each of the eight commands is accepted. -/
def accepting : Word → State
  | 1 => withArgs 0x0202 0 0 0x1028 (cool 2)
  | 2 => withArgs 0 0 0 0 (probing { probe .stretch 8 2 0 with stretchTimer := .running 512000 5 })
  | 3 => withArgs 0 0 0 0x0205 (cool 2)
  | 4 => withArgs 0 0 0 0x0205 (cool 2)
  | 5 => withArgs 0x0821 0 0 0x0025 (cool 2)
  | 6 => withLog [entry] [] (cool 2)
  | 7 => withLog [entry] [] (cool 2)
  | _ => external 1 (cool 2)

theorem witness_CommandRefusalsInOrder :
    (running (cool 2) = true ∧ firstRefusal 9 (cool 2) = some .badCmd ∧ firstRefusal 9 unwinding = some .notReady ∧
      running unwinding = true ∧ (0 : Word).toNat = 0 ∧ 8 < (9 : Word).toNat ∧ 8 < (0xFFFF : Word).toNat) ∧
    ∀ code : Fin 9, code ≠ 0 → firstRefusal (BitVec.ofNat 16 code.val) (accepting (BitVec.ofNat 16 code.val)) = none := by
  decide

theorem witness_AllocationPrefersOtherDevice :
    allocateIndex (cool 2) 0 = some 2 ∧ allocateIndex (cool 1) 0 = some 0 ∧
    allocateIndex { cool 1 with redirects := [(0, { home := row 0 1, state := .spareActive, owner := .command }),
      (1, { home := row 0 2, state := .spareActive, owner := .command })] } 0 = none := by decide

theorem witness_ProbeStartAccepted :
    firstRefusal 1 (accepting 1) = none ∧ (contextOf (accepting 1) 0).state = .idle ∧
    (∀ m : ContextId, m < 0 → (contextOf (accepting 1) m).state ≠ .idle) ∧
    allocateIndex (accepting 1) (rowOperand (accepting 1).host.args.q3).device = some 0 ∧
    ProbeMode.ofCode (bits (accepting 1).host.args.q0 4 2) = some .search ∧
    Pattern.ofCode (bits (accepting 1).host.args.q0 0 3) = some .checker := by decide

/-- The same with a full log. -/
def parkingAbortedLogFull : State :=
  withLog (List.replicate 8 entry) [] parkingAborted

theorem parkingAbortedLogFull_probeLaw : probeLaw parkingAbortedLogFull := by
  have h := parkingAborted_probeLaw
  exact ⟨h.1, ⟨by decide, by decide, by decide, by decide, by decide⟩, h.2.2.1, h.2.2.2.1, h.2.2.2.2.1, h.2.2.2.2.2.1,
    by decide, by decide⟩

theorem witness_ProbeAbortAccepted :
    (probeLaw parkingAborted ∧ isReady parkingAborted = true ∧
      parkingAborted.host.args.q0.toNat = (1 : ContextId).val ∧ (contextOf parkingAborted 1).state = .parking ∧
      parkingAborted.probes.log.length < 8) ∧
    (probeLaw parkingAbortedLogFull ∧ isReady parkingAbortedLogFull = true ∧
      parkingAbortedLogFull.host.args.q0.toNat = (1 : ContextId).val ∧ (contextOf parkingAbortedLogFull 1).state = .parking ∧
      8 ≤ parkingAbortedLogFull.probes.log.length) ∧
    (probeLaw beforeReset ∧ isReady beforeReset = true ∧ beforeReset.host.args.q0.toNat = (0 : ContextId).val ∧
      (contextOf beforeReset 0).state = .stretch) :=
  ⟨⟨parkingAborted_probeLaw, by decide, by decide, by decide, by decide⟩,
    ⟨parkingAbortedLogFull_probeLaw, by decide, by decide, by decide, by decide⟩,
    beforeReset_probeLaw, by decide, by decide, by decide⟩

theorem witness_RetireTestsAndAcceptance :
    (running unwinding = true ∧ isReady unwinding = false) ∧
    (isReady (withArgs 0 0 0 0x2000 (cool 2)) = true ∧
      ¬ (rowOperand (withArgs 0 0 0 0x2000 (cool 2)).host.args.q3).device.val < (cool 2).deviceCount) ∧
    (isReady (withArgs 0 0 0 0x03FE (cool 2)) = true ∧ (recordOf (cool 2) (row 0 1022)).status = .reserved) ∧
    (isReady (withArgs 0 0 0 0x0259 retiring) = true ∧ retiring.copy.retire.isSome = true ∧
      (recordOf retiring (row 0 601)).status = .unprofiled ∧ ∀ p ∈ retiring.redirects, p.2.home ≠ row 0 601) ∧
    (let s := { withArgs 0 0 0 0x0001 (cool 1) with
        redirects := [(0, { home := row 0 4, state := .spareActive, owner := .command }),
          (1, { home := row 0 2, state := .spareActive, owner := .command })] };
      isReady s = true ∧ s.copy.retire = none ∧ (∀ p ∈ s.redirects, p.2.home ≠ row 0 1) ∧ allocateIndex s 0 = none) ∧
    (isReady (accepting 3) = true ∧ (accepting 3).copy.retire = none ∧ (accepting 3).redirects = [] ∧
      (recordOf (accepting 3) (row 0 517)).status = .unprofiled ∧
      allocateIndex (accepting 3) (rowOperand (accepting 3).host.args.q3).device = some 2) := by decide

theorem recordLaw_withArgs (a0 a1 a2 a3 : Word) {s : State} (h : recordLaw s) :
    recordLaw (withArgs a0 a1 a2 a3 s) :=
  h

theorem witness_RecordReadTestsAndResult :
    (running unwinding = true ∧ isReady unwinding = false) ∧
    (isReady (withArgs 0 0 0 0x2000 (cool 2)) = true ∧ (cool 2).deviceCount ≤ (rowOperand 0x2000).device.val) ∧
    (isReady (withArgs 0 0 0 0x1000 (cool 2)) = true ∧ (rowOperand 0x1000).device.val < (cool 2).deviceCount) ∧
    (running (withArgs 0 0 0 0x0005 busy) = true ∧ recordLaw (withArgs 0 0 0 0x0005 busy) ∧
      (recordOf (withArgs 0 0 0 0x0005 busy) (rowOperand 0x0005)).status = .probing) :=
  ⟨by decide, by decide, by decide, by decide, recordLaw_withArgs _ _ _ _ busy_recordLaw, by decide⟩

theorem witness_RecordWriteAccepted :
    firstRefusal 5 (accepting 5) = none ∧
    firstRefusal 5 (withArgs 0x0004 0 0x0002 0x0205 (cool 2)) = none ∧
    dueQueueLaw (withArgs 0x0004 0 0x0002 0x0205 (cool 2)) ∧
    firstRefusal 5 (withArgs 0x0102 0 0 0x1015 (cool 2)) = none ∧
    firstRefusal 5 (withArgs 0 0 0 0x1015 (cool 2)) = none :=
  ⟨by decide, by decide, dueQueueLaw_of_empty rfl (fun _ => rfl), by decide, by decide⟩

end Sys2Proof.Tests
end

section
/-! PROOFS. Sharing the array port: the arbiter's choice is the claim of least rank in Table 2-2 among those that wait and may be
granted (R27). -/

namespace Sys2Proof.Machine

open Sys2Proof

/-- Along a list of rising rank, the first element that meets a test is the one of least rank that meets it. -/
theorem find?_eq_some_iff_least {α : Type} {p : α → Bool} {rank : α → Nat} {l : List α} {a : α}
    (rising : l.Pairwise (rank · < rank ·)) :
    l.find? p = some a ↔ p a = true ∧ a ∈ l ∧ ∀ b, p b = true → b ∈ l → rank a ≤ rank b := by
  induction l with
  | nil => simp
  | cons x xs ih =>
    obtain ⟨head_lt, rising⟩ := List.pairwise_cons.mp rising
    cases hp : p x with
    | true =>
      rw [List.find?_cons_of_pos hp, Option.some_inj]
      constructor
      · rintro rfl
        refine ⟨hp, List.mem_cons_self, fun b _ hb => ?_⟩
        obtain rfl | hb := List.mem_cons.mp hb
        · exact le_rfl
        · exact (head_lt b hb).le
      · rintro ⟨-, ha, least⟩
        obtain rfl | ha := List.mem_cons.mp ha
        · rfl
        · exact absurd (least x hp List.mem_cons_self) (head_lt a ha).not_ge
    | false =>
      have mem_tail : ∀ b, p b = true → (b ∈ x :: xs ↔ b ∈ xs) := fun b hb =>
        List.mem_cons.trans (or_iff_right fun hbx => by simp [← hbx, hb] at hp)
      rw [List.find?_cons_of_neg (by simp [hp]), ih rising]
      refine and_congr_right fun ha => and_congr (mem_tail a ha).symm ?_
      exact forall₂_congr fun b hb => imp_congr_left (mem_tail b hb).symm

@[simp] theorem mem_allContexts (k : ContextId) : k ∈ allContexts := by
  revert k; decide

@[simp] theorem mem_allDevices (d : DeviceId) : d ∈ allDevices := by
  revert d; decide

section

variable (s : State)

/-- Positions 3 to 5 hold the request, copy and probe claims, and nothing under FORCED (R27, Table 2-2). -/
theorem mem_middlePositions (claim : Claim) :
    claim ∈ middlePositions s ↔
      s.scheduler.forced = false ∧ (claim = .request ∨ claim = .copy ∨ ∃ k, claim = .probe k) := by
  unfold middlePositions
  split
  · simp [*]
  · split
    · simp [*, eq_comm]; tauto
    · simp [*, eq_comm]

/-- The grant order holds the claims that may be granted and no others. -/
@[simp] theorem mem_grantOrder (claim : Claim) : claim ∈ grantOrder s ↔ claim.grantable s = true := by
  cases claim with
  | init => simp [grantOrder, Claim.grantable]
  | close d => simp [grantOrder, Claim.grantable]
  | refresh urgent => cases urgent <;> simp [grantOrder, mem_middlePositions, Claim.grantable]
  | request => simp [grantOrder, mem_middlePositions, Claim.grantable]
  | copy => simp [grantOrder, mem_middlePositions, Claim.grantable]
  | probe k => simp [grantOrder, mem_middlePositions, Claim.grantable]

/-- The ranks along the grant order are the places of Table 2-2 in order, those of positions 3 to 5 left out under FORCED. -/
theorem map_rank_grantOrder :
    (grantOrder s).map (Claim.rank s) =
      if s.scheduler.forced then [0, 1, 2, 3, 4, 5, 12] else List.range 13 := by
  have limit : Config.hostGrantLimit = 8 := rfl
  unfold grantOrder middlePositions
  split
  · rfl
  · by_cases count : s.port.hostGrants = 8
    · simp [Claim.rank, limit, count, allDevices, allContexts, List.range_succ]
    · simp [Claim.rank, limit, count, allDevices, allContexts, List.range_succ]

/-- The grant order is in rising rank. -/
theorem grantOrder_rank_rising : (grantOrder s).Pairwise (Claim.rank s · < Claim.rank s ·) := by
  rw [← List.pairwise_map (R := (· < ·)), map_rank_grantOrder]
  split <;> decide

end

/-- Settles O23: the grant order holds just the claims that may be granted, in rising rank of Table 2-2, so the first that waits
is the one of least rank among those that wait and may be granted. -/
theorem arbiterChoosesFirstInOrder : Obligations.ArbiterChoosesFirstInOrder := fun s claim => by
  have first := find?_eq_some_iff_least (p := claimRaised s) (a := claim) (grantOrder_rank_rising s)
  simpa only [chooseClaim, mem_grantOrder] using first

end Sys2Proof.Machine
end

section
/-! PROOFS. The retention table: the class allowed by a margin (R44) is the largest class the margin guards. -/

namespace Sys2Proof.Machine

open Sys2Proof

/-- A margin allows no class just where it is below 2 (R44). -/
theorem allowedClass_eq_none_iff (m : Nat) : allowedClass m = none ↔ m < 2 := by
  unfold allowedClass
  split_ifs <;> simp [*]

/-- The margins that allow class `k` begin at `2 ^ (k + 1)` and, below class 3, end before `2 ^ (k + 2)` (R44). -/
theorem margin_bounds_of_allowedClass {m k : Nat} (allowed : allowedClass m = some k) :
    k ≤ 3 ∧ 2 ^ (k + 1) ≤ m ∧ (k < 3 → m < 2 ^ (k + 2)) := by
  unfold allowedClass at allowed
  split_ifs at allowed <;> cases allowed <;> omega

/-- Where a margin allows class `k`, the classes it guards are those up to `k`, as the powers of two rise. -/
theorem guarded_iff_le_allowedClass {m k : Nat} (allowed : allowedClass m = some k) {j : Nat} (range : j ≤ 3) :
    2 ^ (j + 1) ≤ m ↔ j ≤ k := by
  obtain ⟨-, guarded, below_next⟩ := margin_bounds_of_allowedClass allowed
  constructor
  · intro guarded_j
    by_contra! k_lt
    have next_le : 2 ^ (k + 2) ≤ 2 ^ (j + 1) := Nat.pow_le_pow_right two_pos (Nat.succ_le_succ k_lt)
    exact (below_next (k_lt.trans_le range)).not_ge (next_le.trans guarded_j)
  · intro j_le
    exact (Nat.pow_le_pow_right two_pos (Nat.succ_le_succ j_le)).trans guarded

/-- A margin that guards a class allows one at least as large. -/
theorem exists_allowedClass_ge_of_guarded {m k : Nat} (range : k ≤ 3) (guarded : 2 ^ (k + 1) ≤ m) :
    ∃ l, allowedClass m = some l ∧ k ≤ l := by
  have two_le : 2 ≤ m := (Nat.le_self_pow k.succ_ne_zero 2).trans guarded
  obtain ⟨l, allowed⟩ := Option.ne_none_iff_exists'.mp (mt (allowedClass_eq_none_iff m).mp two_le.not_gt)
  exact ⟨l, allowed, (guarded_iff_le_allowedClass allowed range).mp guarded⟩

/-- The class allowed is the largest of the classes guarded, for there is no second largest (R44). -/
theorem allowedClass_eq_some_iff_largest (m k : Nat) :
    allowedClass m = some k ↔ k ≤ 3 ∧ 2 ^ (k + 1) ≤ m ∧ ∀ j, j ≤ 3 → 2 ^ (j + 1) ≤ m → j ≤ k := by
  constructor
  · intro allowed
    obtain ⟨range, guarded, -⟩ := margin_bounds_of_allowedClass allowed
    exact ⟨range, guarded, fun _ hj => (guarded_iff_le_allowedClass allowed hj).mp⟩
  · rintro ⟨range, guarded, largest⟩
    obtain ⟨l, allowed, k_le⟩ := exists_allowedClass_ge_of_guarded range guarded
    obtain ⟨l_range, l_guarded, -⟩ := margin_bounds_of_allowedClass allowed
    have l_le : l ≤ k := largest l l_range l_guarded
    rw [allowed, l_le.antisymm k_le]

/-- The class allowed does not decrease as the margin grows: what the smaller margin guards, the larger one guards too. -/
theorem allowedClass_mono {m n k : Nat} (le : m ≤ n) (allowed : allowedClass m = some k) :
    ∃ l, allowedClass n = some l ∧ k ≤ l := by
  obtain ⟨range, guarded, -⟩ := margin_bounds_of_allowedClass allowed
  exact exists_allowedClass_ge_of_guarded range (guarded.trans le)

/-- Settles O44: the classes guarded by a margin are those up to the one it allows, which is therefore the largest of them; and
a larger margin guards no fewer. -/
theorem allowedClassIsLargestGuarded : Obligations.AllowedClassIsLargestGuarded :=
  ⟨allowedClass_eq_none_iff, allowedClass_eq_some_iff_largest, fun _ _ _ => allowedClass_mono⟩

end Sys2Proof.Machine
end

section
/-! PROOFS. Host memory requests: what a write of STAGE_DATA does in each of the cases of R80. -/

namespace Sys2Proof.Machine

open Sys2Proof

/-- While RSTIN# is high, a guarded command has its effect. -/
theorem whenRunning_of_running {s : State} (run : running s = true) (effect : State → State) :
    whenRunning effect s = effect s :=
  if_pos run

/-- The two bytes of a word are the remainder and the quotient by 256, the low one first. -/
theorem wordBytes_eq_mod_div (w : Word) :
    wordBytes w = [BitVec.ofNat 8 (w.toNat % 256), BitVec.ofNat 8 (w.toNat / 256)] := by
  have low : w.extractLsb' 0 8 = BitVec.ofNat 8 (w.toNat % 256) := by
    apply BitVec.eq_of_toNat_eq
    simp
  have high : w.extractLsb' 8 8 = BitVec.ofNat 8 (w.toNat / 256) := by
    apply BitVec.eq_of_toNat_eq
    simp [Nat.shiftRight_eq_div_pow]
  rw [wordBytes, low, high]

/-- Recording a host error leaves its code in HOST_ERR and raises bit 3 of EVT (R175). -/
theorem recordHostError_eq_withHostError (code : HostError) (s : State) : recordHostError code s = withHostError code s := rfl

section

variable (value : Word) {s : State}

theorem exec_stageData_of_running (run : running s = true) : exec (.stageData value) s = .next (stage value s) :=
  congrArg Host.Outcome.next (whenRunning_of_running run _)

/-- Outside READY the word is discarded with NOT_READY (R80). -/
theorem stage_of_not_ready (unready : isReady s = false) : stage value s = withHostError .notReady s := by
  rw [← recordHostError_eq_withHostError]
  exact if_pos (by simp [unready])

/-- In READY the room alone decides: the word is discarded whole or joins the FIFO whole (R80). -/
theorem stage_of_ready (ready : isReady s = true) :
    stage value s =
      if Config.stagingBytes < s.requests.staging.length + 2 then withHostError .stageOverflow s
      else { s with requests := { s.requests with staging := s.requests.staging ++ wordBytes value } } := by
  rw [← recordHostError_eq_withHostError]
  exact if_neg (by simp [ready])

/-- With 63 or 64 bytes held there is no room for both bytes, and neither joins (R80). -/
theorem stage_of_full (ready : isReady s = true) (full : 63 ≤ s.requests.staging.length) :
    stage value s = withHostError .stageOverflow s := by
  have no_room : Config.stagingBytes < s.requests.staging.length + 2 := Nat.add_le_add_right full 2
  rw [stage_of_ready value ready, if_pos no_room]

/-- With at most 62 bytes held both bytes join the tail, the low one first (R80). -/
theorem stage_of_room (ready : isReady s = true) (room : s.requests.staging.length ≤ 62) :
    stage value s = { s with requests := { s.requests with
      staging := s.requests.staging ++ [BitVec.ofNat 8 (value.toNat % 256), BitVec.ofNat 8 (value.toNat / 256)] } } := by
  have fits : s.requests.staging.length + 2 ≤ Config.stagingBytes := Nat.add_le_add_right room 2
  rw [stage_of_ready value ready, if_neg fits.not_gt, wordBytes_eq_mod_div]

end

/-- STAGE_DATA is write-only: its address reads 0, whether RSTIN# is high or low (R80, R164). -/
theorem readRegister_stageData (s : State) : readRegister s 0x16 = 0 :=
  ite_self _

/-- Settles O32: a write of STAGE_DATA is the host's staging of the word, which R80's cases decide by the controller's state and
the room in the FIFO. -/
theorem stageDataWrite : Obligations.StageDataWrite := by
  intro s value run
  rw [exec_stageData_of_running value run]
  exact ⟨fun ready room => congrArg _ (stage_of_room value ready room),
    fun ready full => congrArg _ (stage_of_full value ready full),
    fun unready => congrArg _ (stage_of_not_ready value unready), readRegister_stageData s⟩

end Sys2Proof.Machine
end

section
/-! PROOFS. Probe outcomes: what each of R141, R142 and R143 gives a finished probe, one lemma per row of its table. -/

namespace Sys2Proof.Machine

open Sys2Proof

/-- No class is allowed below margin 2 (R44). -/
theorem allowedClass_of_lt_two {m : Nat} (weak : m < 2) : allowedClass m = none :=
  (allowedClass_eq_none_iff m).mpr weak

/-- A margin below 2 guards no class (R44). -/
theorem not_guarded_of_lt_two {m : Nat} (weak : m < 2) (k : Nat) : ¬ 2 ^ (k + 1) ≤ m :=
  (weak.trans_le (Nat.le_self_pow k.succ_ne_zero 2)).not_ge

section

variable {auto : Bool} {m k : Nat}

/-! #### A finished SEARCH (R141) and a failed CHECK (R143) -/

theorem searchOutcome_of_allowed (allowed : allowedClass m = some k) :
    searchOutcome auto m = (.profiled, profiledOutcome k m) := by
  rw [searchOutcome, allowed]

theorem searchOutcome_of_lt_two (weak : m < 2) : searchOutcome auto m = weakOutcome auto := by
  rw [searchOutcome, allowedClass_of_lt_two weak]

theorem failedCheckOutcome_of_le_two (weak : m ≤ 2) : failedCheckOutcome auto m = weakOutcome auto :=
  if_pos weak

theorem failedCheckOutcome_of_two_lt (above : 2 < m) : failedCheckOutcome auto m = (.demoted, unprofiledOutcome) :=
  if_neg above.not_ge

/-! #### A passed CHECK (R142) -/

variable {p : PriorRecord}

/-- A PROFILED row whose class the passed step guards keeps the class and the greater of the two margins. -/
theorem passedCheckOutcome_of_profiled_guarded (status : p.status = .profiled) (guarded : 2 ^ (p.cls + 1) ≤ m) :
    passedCheckOutcome m p = (.revalidated, profiledOutcome p.cls (max p.margin m)) := by
  simp only [passedCheckOutcome, status, if_pos guarded]

/-- A PROFILED row whose class the passed step does not guard falls to the class the step allows. -/
theorem passedCheckOutcome_of_profiled_allowed (status : p.status = .profiled) (unguarded : m < 2 ^ (p.cls + 1))
    (allowed : allowedClass m = some k) : passedCheckOutcome m p = (.demoted, profiledOutcome k m) := by
  simp only [passedCheckOutcome, status, if_neg unguarded.not_ge, allowed]

/-- A PROFILED row loses its class at a step that allows none. -/
theorem passedCheckOutcome_of_profiled_lt_two (status : p.status = .profiled) (weak : m < 2) :
    passedCheckOutcome m p = (.demoted, unprofiledOutcome) := by
  simp only [passedCheckOutcome, status, if_neg (not_guarded_of_lt_two weak p.cls), allowedClass_of_lt_two weak]

/-- A row without a class enters the one the passed step allows. -/
theorem passedCheckOutcome_of_classless_allowed (status : p.status = .unprofiled ∨ p.status = .suspect)
    (allowed : allowedClass m = some k) : passedCheckOutcome m p = (.profiled, profiledOutcome k m) := by
  obtain status | status := status <;> simp only [passedCheckOutcome, status, allowed]

theorem passedCheckOutcome_of_unprofiled_lt_two (status : p.status = .unprofiled) (weak : m < 2) :
    passedCheckOutcome m p = (.revalidated, unprofiledOutcome) := by
  simp only [passedCheckOutcome, status, allowedClass_of_lt_two weak]

/-- A SUSPECT row that passes a step allowing no class stays SUSPECT, now with margin 1. -/
theorem passedCheckOutcome_of_suspect_lt_two (status : p.status = .suspect) (weak : m < 2) :
    passedCheckOutcome m p = (.revalidated, { status := .suspect, cls := 0, margin := 1, renewStamp := false }) := by
  simp only [passedCheckOutcome, status, allowedClass_of_lt_two weak]

end

section

variable {auto : Bool} {c : ProbeContext} {name : OutcomeName} {record : OutcomeRecord}

/-! #### Which table a finished probe's outcome is read from -/

theorem deriveOutcome_of_search (mode : c.mode = .search)
    (derived : searchOutcome auto c.lastPassed = (name, record)) :
    deriveOutcome auto c = { name := name, record := some record } := by
  simp only [deriveOutcome, mode, derived]

theorem deriveOutcome_of_failed {step : Nat} (mode : c.mode = .check) (failed : c.failingStep = some step)
    (derived : failedCheckOutcome auto step = (name, record)) :
    deriveOutcome auto c = { name := name, record := some record } := by
  simp only [deriveOutcome, mode, failed, derived]

theorem deriveOutcome_of_passed {p : PriorRecord} (mode : c.mode = .check) (passed : c.failingStep = none)
    (prior : c.prior = some p) (derived : passedCheckOutcome c.lastPassed p = (name, record)) :
    deriveOutcome auto c = { name := name, record := some record } := by
  have saved : priorOf c = p := by rw [priorOf, prior, Option.getD_some]
  simp only [deriveOutcome, mode, passed, saved, derived]

/-- The outcome of a weak row is RETIRED under auto-retire and SUSPECT without it, with the record of that status (R141, R143). -/
theorem deriveOutcome_of_weak
    (weak : deriveOutcome auto c = { name := (weakOutcome auto).1, record := some (weakOutcome auto).2 }) :
    (auto = true → deriveOutcome auto c =
      { name := .retired, record := some { status := .retired, cls := 0, margin := 0, renewStamp := false } }) ∧
    (auto = false → deriveOutcome auto c =
      { name := .suspect, record := some { status := .suspect, cls := 0, margin := 0, renewStamp := false } }) := by
  constructor <;> rintro rfl <;> exact weak

end

/-- Settles O45: the mode and the failing step choose the table, and the passed or the failed step and the saved status choose
its row. -/
theorem probeOutcomesFollowTables : Obligations.ProbeOutcomesFollowTables := by
  intro auto c
  refine ⟨fun search => ⟨fun k allowed => ?_, fun weak => ?_⟩, fun check step failed => ⟨fun weak => ?_, fun above => ?_⟩,
    fun check passed p prior => ?_⟩
  · exact deriveOutcome_of_search search (searchOutcome_of_allowed allowed)
  · exact deriveOutcome_of_weak (deriveOutcome_of_search search (searchOutcome_of_lt_two weak))
  · exact deriveOutcome_of_weak (deriveOutcome_of_failed check failed (failedCheckOutcome_of_le_two weak))
  · exact deriveOutcome_of_failed check failed (failedCheckOutcome_of_two_lt above)
  · have lt_two_of_eq_one (one : c.lastPassed = 1) : c.lastPassed < 2 := one.trans_lt one_lt_two
    refine ⟨fun status guarded => ?_, fun status unguarded k allowed => ?_, fun status one => ?_,
      fun status k allowed => ?_, fun status one => ?_, fun status one => ?_⟩ <;>
      apply deriveOutcome_of_passed check passed prior
    · exact passedCheckOutcome_of_profiled_guarded status guarded
    · exact passedCheckOutcome_of_profiled_allowed status unguarded allowed
    · exact passedCheckOutcome_of_profiled_lt_two status (lt_two_of_eq_one one)
    · exact passedCheckOutcome_of_classless_allowed status allowed
    · exact passedCheckOutcome_of_unprofiled_lt_two status (lt_two_of_eq_one one)
    · exact passedCheckOutcome_of_suspect_lt_two status (lt_two_of_eq_one one)

end Sys2Proof.Machine
end

section
/-! PROOFS. What a step can do: every command either leaves the arbiter alone or makes one change that the arbiter's choice
follows. The changes are listed once, with the guards under which they are made, and each law is then a case split over them. -/

namespace Sys2Proof.Machine

open Sys2Proof

/-- What a command can do that no arbiter's choice follows. -/
inductive Unarbitrated (s : State) : State → Prop
  | nothing : Unarbitrated s s
  | time : Unarbitrated s (tickTimers s)
  | asserted : Unarbitrated s (assertReset s)
  | released (straps : BitVec 2) : Unarbitrated s (releaseReset straps s)
  | logWait : Unarbitrated s (serveWaiting s)
  | held (full : Config.pendingSlices ≤ s.scheduler.pendingSlices) :
      Unarbitrated s { s with scheduler := { s.scheduler with sliceTimer := .expired } }
  | discarded : Unarbitrated s { s with supervisor := { s.supervisor with conversion := .idle } }
  /-- Register writes and reads: the host interface, and of the request engine at most the fields, the staged bytes (in READY) and
  the data cursor. -/
  | window (host : HostInterface) (requests : RequestEngine)
      (interrupt : interruptLaw s → interruptLaw { s with host := host })
      (queue : requests.requests = s.requests.requests) (access : requests.access = s.requests.access)
      (completions : requests.completions = s.requests.completions)
      (staging : requests.staging = s.requests.staging ∨ isReady s = true ∧ requests.staging.length ≤ 64) :
      Unarbitrated s { s with host := host, requests := requests }
  | posted (q : Request) (ready : isReady s = true) (room : s.requests.requests.length < Config.queueEntries)
      (behind : s.requests.requests ≠ []) : Unarbitrated s (acceptPost q s)
  | configured (config : Configuration) (mode : config.external = s.config.external)
      (legal : configurationLaw s → configurationLaw { s with config := config }) :
      Unarbitrated s { s with config := config }

/-- What an accepted command does, with what its tests have found. -/
inductive Accepted (s : State) : State → Prop
  | probeStart (o : ProbeOperand) (mode : ProbeMode) (pattern : Pattern) (k : ContextId) (i : ReservedIndex)
      (step : stepValid mode o.step = true) (free : rowFree s o.target = true) (cool : s.supervisor.thermal ≠ .hot)
      (idle : (contextOf s k).state = .idle) (unused : indexFree s i = true) :
      Accepted s (startProbe o mode pattern k i s)
  | probeAbort (k : ContextId) (running : abortable (contextOf s k).state = true) : Accepted s (abortContext .host k s)
  | retire (home : Row) (i : ReservedIndex) (free : rowFree s home = true) (single : s.copy.retire = none)
      (unused : indexFree s i = true) : Accepted s (startRetire home i s)
  | recordRead (r : Row) : Accepted s (showRecord r s)
  | recordWrite (o : RecordOperand) (status : RecordStatus) (margin : o.margin ≤ 16)
      (writable : o.status = some status) (ordinary : isReservedRow o.row = false) (free : rowFree s o.row = true)
      (consistent : inconsistent o status = false) (unused : status = .retired → indexFree s o.spare = true) :
      Accepted s (writeRecord o status s)
  | logRead (w : Quad Word) : Accepted s (setResults w.q0 w.q1 w.q2 w.q3 s)
  | logPop (e : LogEntry) (rest : List LogEntry) (head : s.probes.log = e :: rest) :
      Accepted s (serveWaiting { s with probes := { s.probes with log := rest } })
  | tempSupply (reading : Int) :
      Accepted s { readingArrives reading s with
        supervisor := { (readingArrives reading s).supervisor with stale := 0 } }

/-- What a command can do before the arbiter's choice. -/
inductive Arbitrated (s : State) : State → Prop
  | nothing : Arbitrated s s
  | pauseExpired (powerup : s.controller = some .powerup) :
      Arbitrated s { s with controller := some .init, port := { s.port with pause := .stopped, initCycle := 0 } }
  | initCycle (row : Row) (op : s.port.operation = some (.initCycle row)) :
      Arbitrated s { closeDevice row.device (freePort s) with
        port := { (closeDevice row.device (freePort s)).port with initCycle := s.port.initCycle + 1 } }
  | initEnded (row : Row) (op : s.port.operation = some (.initCycle row)) :
      Arbitrated s (enterReady { closeDevice row.device (freePort s) with
        port := { (closeDevice row.device (freePort s)).port with initCycle := s.port.initCycle + 1 } })
  | rowRefresh (row : Row) (op : s.port.operation = some (.rowRefresh row)) :
      Arbitrated s { closeDevice row.device (freePort s) with
        scheduler := { s.scheduler with refreshing := false } }
  | rowClose (d : DeviceId) (op : s.port.operation = some (.rowClose d)) : Arbitrated s (closeDevice d (freePort s))
  | hostAccess (decay : Decay) (target : Row) (kind : RequestKind) (column length : Nat) (bytes : List Byte)
      (pageOpen hit : Bool) (op : s.port.operation = some (.hostAccess target kind column length bytes pageOpen hit)) :
      Arbitrated s (endAccess (readBytes (hostArrayEffect target kind column bytes decay s) target column length)
        (openRowAtCompletion target pageOpen hit (freePort (hostArrayEffect target kind column bytes decay s))))
  | failedHead : Arbitrated s (checkHead s)
  | popped (c : Completion) (rest : List Completion) (head : s.requests.completions = c :: rest) :
      Arbitrated s (checkHead { s with requests := { s.requests with completions := rest, cursor := 0 } })
  | posted (q : Request) (ready : isReady s = true) (empty : s.requests.requests = []) :
      Arbitrated s (checkHead (acceptPost q s))
  | copyBurst (decay : Decay) (source target : Row) (burst : Nat)
      (op : s.port.operation = some (.copyBurst source target burst)) :
      Arbitrated s (copyBurstResult (closeDevice target.device (closeDevice source.device
        (freePort (copyArrayEffect source target burst decay s)))))
  | unwindEnd : Arbitrated s (testUnwind s)
  | patternBurst (k : ContextId) (row : Row) (burst : Nat) (bytes : List Byte)
      (op : s.port.operation = some (.patternBurst k row burst bytes)) :
      Arbitrated s (patternBurstResult k (closeDevice row.device
        (freePort (writeBytes row (Config.burstColumns * burst) bytes s))))
  | checkBurst (decay : Decay) (k : ContextId) (row : Row) (burst : Nat) (expected : List Byte) (differing : List Nat)
      (op : s.port.operation = some (.checkBurst k row burst expected)) :
      Arbitrated s (checkBurstResult k differing (closeDevice row.device (freePort (applyDecay row decay s))))
  | openRowExpired (d : DeviceId) (runs : (deviceState s d).timer.isRunning = true) :
      Arbitrated s (setDevice d { deviceState s d with timer := .expired, closeClaim := true } s)
  | sliceExpired (room : s.scheduler.pendingSlices < Config.pendingSlices) :
      Arbitrated s (startSliceTimer (takeExpiry s))
  | sensorTimeout : Arbitrated s (testSensorTimeout s)
  | heldExpiry : Arbitrated s (releaseHeld s)
  | visit (c : ScanCursor) (cursor : s.scheduler.cursor = some c) : Arbitrated s (visitRow c s)
  | forcedClear : Arbitrated s (testForced s)
  | stretchExpired (k : ContextId) (stretch : (contextOf s k).state = .stretch) :
      Arbitrated s (setContext k { contextOf s k with state := .checking, stretchTimer := .stopped, burstsDone := 0 } s)
  | conversion (reading : Int) :
      Arbitrated s (readingArrives reading { s with supervisor := { s.supervisor with conversion := .idle } })
  | softReset (ready : isReady s = true) : Arbitrated s (softResetEffects s)
  | sensorMode (external : Bool) (config : Configuration) (mode : config.external = s.config.external)
      (legal : configurationLaw s → configurationLaw { s with config := config }) :
      Arbitrated s (changeSensorMode external { s with config := config })
  | command (code : Word) (t : State) (ready : isReady s = true)
      (accepted : Accepted { s with host := { s.host with command := code } } t) :
      Arbitrated s (setCommandStatus .accepted t)

/-- A command's answer: a change without the arbiter, or one before the arbiter's choice. -/
def Answers (s t : State) : Prop :=
  Unarbitrated s t ∨ running s = true ∧ ∃ u, Arbitrated s u ∧ t = arbitrate u

variable {s t : State}

theorem Answers.nothing : Answers s s := .inl .nothing

theorem Answers.arbitrated {u : State} (run : running s = true) (h : Arbitrated s u) : Answers s (arbitrate u) :=
  .inr ⟨run, u, h, rfl⟩

/-- A guarded command does nothing while RSTIN# is low. -/
theorem Answers.guarded {effect : State → State} (h : running s = true → Answers s (effect s)) :
    Answers s (whenRunning effect s) := by
  unfold whenRunning
  split_ifs with run
  · exact h run
  · exact .nothing

/-! ### The register window -/

/-- Evaluating HIRQ# makes the law of the interrupt hold (R177). -/
theorem interruptLaw_evaluate (host : HostInterface) : interruptLaw { s with host := host.evaluate } := by
  simp [interruptLaw, HostInterface.evaluate]

/-- A change of the host interface alone. -/
theorem Answers.host (host : HostInterface) (h : interruptLaw s → interruptLaw { s with host := host }) :
    Answers s { s with host := host } :=
  .inl (.window host s.requests h rfl rfl rfl (.inl rfl))

theorem recordHostError_answers (code : HostError) : Answers s (recordHostError code s) :=
  .host _ fun _ => interruptLaw_evaluate _

theorem writeEvents_answers (value : Word) : Answers s (writeEvents value s) :=
  .host _ fun _ => interruptLaw_evaluate _

theorem writeMask_answers (value : Word) : Answers s (writeMask value s) :=
  .host _ fun _ => interruptLaw_evaluate _

/-- A change of the configuration to a legal one that keeps the sensor mode. -/
theorem Answers.config (config : Configuration) (mode : config.external = s.config.external)
    (legal : configurationLaw s → configurationLaw { s with config := config }) :
    Answers s { s with config := config } :=
  .inl (.configured config mode legal)

/-- A four-bit field is below 16. -/
theorem bits_lt (w : Word) (low width : Nat) : bits w low width < 2 ^ width :=
  Nat.mod_lt _ (Nat.two_pow_pos width)

theorem writeTbase_answers (value : Word) : Answers s (writeTbase value s) := by
  unfold writeTbase
  split_ifs
  · refine .config _ rfl fun law => ?_
    simp_all [configurationLaw]
  · exact recordHostError_answers _

theorem writePage_answers (value : Word) : Answers s (writePage value s) := by
  unfold writePage
  split_ifs
  · refine .config _ rfl fun law => ?_
    simp_all [configurationLaw]
  · exact recordHostError_answers _

theorem writeEpochDivider_answers (value : Word) : Answers s (writeEpochDivider value s) := by
  unfold writeEpochDivider
  split_ifs
  · refine .config _ rfl fun law => ?_
    simp_all [configurationLaw]
  · exact recordHostError_answers _

theorem writeAgeLimit_answers (value : Word) : Answers s (writeAgeLimit value s) := by
  unfold writeAgeLimit
  split_ifs
  · refine .config _ rfl fun law => ?_
    simp_all [configurationLaw]
  · exact recordHostError_answers _

theorem writeWarm_answers (value : Word) : Answers s (writeWarm value s) := by
  unfold writeWarm
  split_ifs
  · refine .config _ rfl fun law => ?_
    simp_all [configurationLaw, thresholdInRange]
  · exact recordHostError_answers _

theorem writeHot_answers (value : Word) : Answers s (writeHot value s) := by
  unfold writeHot
  split_ifs
  · refine .config _ rfl fun law => ?_
    simp_all [configurationLaw, thresholdInRange]
  · exact recordHostError_answers _

/-- The mode register keeps the configuration legal, as a hysteresis of 0 is refused (R153). -/
theorem configurationLaw_of_mode (value : Word) (nonzero : bits value 0 4 ≠ 0) (law : configurationLaw s) :
    configurationLaw { s with
      config := { s.config with hysteresis := bits value 0 4, autoRetire := value.getLsbD 12 } } := by
  have := bits_lt value 0 4
  obtain ⟨tbase, inForce, limit, divider, age, -, thresholds⟩ := law
  exact ⟨tbase, inForce, limit, divider, age, ⟨Nat.pos_of_ne_zero nonzero, by dsimp only; omega⟩, thresholds⟩

theorem writeMode_answers (run : running s = true) (value : Word) : Answers s (writeMode value s) := by
  unfold writeMode
  split_ifs with zero same
  · exact recordHostError_answers _
  · exact .config _ rfl (configurationLaw_of_mode value zero)
  · exact .arbitrated run (.sensorMode _ _ rfl (configurationLaw_of_mode value zero))

theorem writeControl_answers (run : running s = true) (value : Word) : Answers s (writeControl value s) := by
  unfold writeControl
  split_ifs with h
  · exact .arbitrated run (.softReset (Bool.and_eq_true_iff.mp h).2)
  · exact .nothing

/-- A write of a request field keeps the queues, the access and the staged bytes (R79). -/
theorem writeRequestField_eq (address : BitVec 6) (value : Word) (e : RequestEngine) :
    ∃ kind device row column length tag fill, writeRequestField address value e = { e with
      kindField := kind, deviceField := device, rowField := row, columnField := column, lengthField := length
      tagField := tag, fillField := fill } := by
  unfold writeRequestField
  split <;> exact ⟨_, _, _, _, _, _, _, rfl⟩

/-- A write of an argument register changes the arguments alone (R170). -/
theorem writeArgument_eq (address : BitVec 6) (value : Word) (h : HostInterface) :
    ∃ args patternArgs, writeArgument address value h = { h with args := args, patternArgs := patternArgs } := by
  unfold writeArgument
  split <;> exact ⟨_, _, rfl⟩

theorem storeRegister_answers (address : BitVec 6) (value : Word) : Answers s (storeRegister address value s) := by
  obtain ⟨_, _, _, _, _, _, _, fields⟩ := writeRequestField_eq address value s.requests
  obtain ⟨_, _, arguments⟩ := writeArgument_eq address value s.host
  rw [storeRegister, fields, arguments]
  exact .inl (.window _ _ id rfl rfl rfl (.inl rfl))

/-! ### The request engine -/

theorem stage_answers (value : Word) : Answers s (stage value s) := by
  unfold stage
  split_ifs with unready full
  · exact recordHostError_answers _
  · exact recordHostError_answers _
  · refine .inl (.window s.host _ id rfl rfl rfl (.inr ⟨by simpa using unready, ?_⟩))
    have : (wordBytes value).length = 2 := rfl
    simp only [Config.stagingBytes, List.length_append] at full ⊢
    omega

theorem post_answers (run : running s = true) : Answers s (post s) := by
  unfold post
  split
  · exact recordHostError_answers _
  · rename_i unready
    have ready : isReady s = true := by simpa using unready
    split
    · exact recordHostError_answers _
    · rename_i room
      split
      · exact recordHostError_answers _
      · dsimp only
        split
        · exact recordHostError_answers _
        · split
          · rename_i empty
            exact .arbitrated run (.posted _ ready (by simpa using empty))
          · rename_i behind
            exact .inl (.posted _ ready (by omega) (by simpa using behind))

theorem readCompletionData_answers : Answers s (readCompletionData s) :=
  .inl (.window _ _ id rfl rfl rfl (.inl rfl))

theorem popCompletion_answers (run : running s = true) : Answers s (popCompletion s) := by
  unfold popCompletion
  split
  · exact recordHostError_answers _
  · exact .arbitrated run (.popped _ _ ‹_›)

/-! ### The completions on the port -/

section

variable (run : running s = true)
include run

theorem hostAccessDone_answers (decay : Decay) : Answers s (hostAccessDone decay s) := by
  unfold hostAccessDone
  split
  · exact .arbitrated run (.hostAccess decay _ _ _ _ _ _ _ ‹_›)
  all_goals exact .nothing

theorem copyBurstDone_answers (decay : Decay) : Answers s (copyBurstDone decay s) := by
  unfold copyBurstDone
  split
  · exact .arbitrated run (.copyBurst decay _ _ _ ‹_›)
  all_goals exact .nothing

theorem patternBurstDone_answers : Answers s (patternBurstDone s) := by
  unfold patternBurstDone
  split
  · exact .arbitrated run (.patternBurst _ _ _ _ ‹_›)
  all_goals exact .nothing

theorem checkBurstDone_answers (decay : Decay) : Answers s (checkBurstDone decay s) := by
  unfold checkBurstDone
  split
  · exact .arbitrated run (.checkBurst _ _ _ _ _ _ ‹_›)
  all_goals exact .nothing

theorem rowRefreshDone_answers : Answers s (rowRefreshDone s) := by
  unfold rowRefreshDone
  split
  · exact .arbitrated run (.rowRefresh _ ‹_›)
  all_goals exact .nothing

theorem rowCloseDone_answers : Answers s (rowCloseDone s) := by
  unfold rowCloseDone
  split
  · exact .arbitrated run (.rowClose _ ‹_›)
  all_goals exact .nothing

theorem initCycleDone_answers : Answers s (initCycleDone s) := by
  unfold initCycleDone
  split
  · dsimp only
    split_ifs
    · exact .arbitrated run (.initCycle _ ‹_›)
    · exact .arbitrated run (.initEnded _ ‹_›)
  all_goals exact .nothing

/-! ### The timers, the scan and the sensor -/

theorem pauseExpired_answers : Answers s (pauseExpired s) := by
  unfold pauseExpired
  split
  · exact .arbitrated run (.pauseExpired ‹_›)
  all_goals exact .nothing

theorem openRowExpired_answers (d : DeviceId) : Answers s (openRowExpired d s) := by
  unfold openRowExpired
  split_ifs with h
  · exact .arbitrated run (.openRowExpired d h)
  · exact .nothing

theorem sliceExpired_answers : Answers s (sliceExpired s) := by
  unfold sliceExpired
  split_ifs with _ room
  · exact .arbitrated run (.sliceExpired room)
  · exact .inl (.held (by omega))
  · exact .nothing

theorem scan_answers : Answers s (scan s) := by
  unfold scan
  split
  · exact .nothing
  · split_ifs
    · exact .nothing
    · exact .arbitrated run (.visit _ ‹_›)

theorem stretchExpired_answers (k : ContextId) : Answers s (stretchExpired k s) := by
  unfold stretchExpired
  dsimp only
  split
  · split_ifs
    · exact .arbitrated run (.stretchExpired k ‹_›)
    · exact .nothing
  all_goals exact .nothing

theorem conversionDone_answers (measured : Int) : Answers s (conversionDone measured s) := by
  unfold conversionDone
  split
  · exact .nothing
  · dsimp only
    split_ifs
    · exact .inl .discarded
    · exact .arbitrated run (.conversion _)

end

/-! ### The command unit -/

/-- An index that the allocation finds is free (R101). -/
theorem indexFree_of_allocateIndex {d : DeviceId} {i : ReservedIndex} (h : allocateIndex s d = some i) :
    indexFree s i = true := by
  unfold allocateIndex at h
  split at h
  · rename_i found
    cases h
    have := List.find?_some found
    exact (Bool.and_eq_true_iff.mp this).1
  · exact List.find?_some h

/-- The context that PROBE START takes is IDLE (R120). -/
theorem idle_of_idleContext {k : ContextId} (h : idleContext s = some k) : (contextOf s k).state = .idle := by
  have := List.find?_some h
  exact of_decide_eq_true this

theorem probeStartBody_accepted (h : probeStartBody s = .accepted t) : Accepted s t := by
  unfold probeStartBody at h
  dsimp only at h
  split at h
  · split at h
    · cases h
    · rename_i bad
      simp only [Bool.or_eq_true, Bool.not_eq_true', not_or, Bool.not_eq_false] at bad
      split at h
      · cases h
      · rename_i busy
        split at h
        · cases h
        · rename_i hot
          split at h
          · cases h
          · rename_i idle
            split at h
            · cases h
            · rename_i found
              cases h
              exact .probeStart _ _ _ _ _ bad.2 (by simpa using busy) hot (idle_of_idleContext idle)
                (indexFree_of_allocateIndex found)
  · cases h
  · cases h

theorem probeAbortBody_accepted (h : probeAbortBody s = .accepted t) : Accepted s t := by
  unfold probeAbortBody at h
  split at h
  · cases h
  · dsimp only at h
    split at h
    · rename_i running
      cases h
      exact .probeAbort _ running
    · cases h

theorem retireBody_accepted (h : retireBody s = .accepted t) : Accepted s t := by
  unfold retireBody at h
  dsimp only at h
  split at h
  · cases h
  · split at h
    · cases h
    · rename_i busy
      split at h
      · cases h
      · rename_i outstanding
        split at h
        · cases h
        · rename_i found
          cases h
          exact .retire _ _ (by simpa using busy) (by simpa using outstanding) (indexFree_of_allocateIndex found)

theorem recordReadBody_accepted (h : recordReadBody s = .accepted t) : Accepted s t := by
  unfold recordReadBody at h
  dsimp only at h
  split_ifs at h
  cases h
  exact .recordRead _

theorem recordWriteBody_accepted (h : recordWriteBody s = .accepted t) : Accepted s t := by
  unfold recordWriteBody at h
  dsimp only at h
  split at h
  · cases h
  · rename_i status named
    split_ifs at h with bad reserved busy unfit unused
    cases h
    refine .recordWrite _ status ?_ named (by simpa using reserved) (by simpa using busy) (by simpa using unfit) ?_
    · simp only [Bool.or_eq_true, decide_eq_true_eq, not_or, not_lt] at bad
      exact bad.2
    · rintro rfl
      simp only [beq_self_eq_true, Bool.true_and, Bool.or_eq_true, Bool.not_eq_true', not_or, Bool.not_eq_false] at unused
      exact unused.1

theorem logReadBody_accepted (h : logReadBody s = .accepted t) : Accepted s t := by
  unfold logReadBody at h
  split at h
  · cases h
  · cases h
    exact .logRead _

theorem logPopBody_accepted (h : logPopBody s = .accepted t) : Accepted s t := by
  unfold logPopBody at h
  split at h
  · cases h
  · cases h
    exact .logPop _ _ ‹_›

theorem tempSupplyBody_accepted (h : tempSupplyBody s = .accepted t) : Accepted s t := by
  unfold tempSupplyBody at h
  split_ifs at h
  cases h
  exact .tempSupply _

/-- A write to CMD answers, if every acceptance of its body is one of those listed. -/
theorem takeCommand_answers (run : running s = true) (code : Word) {body : State → Verdict}
    (accepted : ∀ u v, body u = .accepted v → Accepted u v) : Answers s (takeCommand code body s) := by
  obtain ⟨-, h⟩ | ⟨-, refusal, -, h⟩ | ⟨ready, u, verdict, h⟩ := takeCommand_cases s code body <;> rw [h]
  · exact .host _ id
  · exact .host _ id
  · exact .arbitrated run (.command code u ready (accepted _ _ verdict))

theorem commandBody_accepted (code : Word) (h : commandBody code s = .accepted t) : Accepted s t := by
  generalize body_eq : commandBody code = body at h
  unfold commandBody at body_eq
  split at body_eq <;> subst body_eq
  · exact probeStartBody_accepted h
  · exact probeAbortBody_accepted h
  · exact retireBody_accepted h
  · exact recordReadBody_accepted h
  · exact recordWriteBody_accepted h
  · exact logReadBody_accepted h
  · exact logPopBody_accepted h
  · exact tempSupplyBody_accepted h
  · cases h

theorem writeRegister_answers (run : running s = true) (address : BitVec 6) (value : Word) :
    Answers s (writeRegister address value s) := by
  unfold writeRegister
  split
  · exact writeEvents_answers value
  · exact writeMask_answers value
  · exact writeControl_answers run value
  · exact writeTbase_answers value
  · exact writePage_answers value
  · exact writeEpochDivider_answers value
  · exact writeAgeLimit_answers value
  · exact writeWarm_answers value
  · exact writeHot_answers value
  · exact writeMode_answers run value
  · exact post_answers run
  · exact stage_answers value
  · exact popCompletion_answers run
  · exact takeCommand_answers run value fun _ _ => commandBody_accepted value
  · exact storeRegister_answers address value

/-! ### Every command and every step -/

/-- Every command answers with one of the changes listed. -/
theorem exec_answers {c : Instr} (h : exec c s = .next t) : Answers s t := by
  cases c <;> cases h
  case rstinAssert => exact .guarded fun _ => .inl .asserted
  case rstinRelease straps => exact .inl (.released straps)
  case powerUpPauseExpiry => exact .guarded pauseExpired_answers
  case initCycleCompletion => exact .guarded initCycleDone_answers
  case grant => exact .guarded fun run => .arbitrated run .nothing
  case rowRefreshCompletion => exact .guarded rowRefreshDone_answers
  case rowCloseCompletion => exact .guarded rowCloseDone_answers
  case hostAccessCompletion decay => exact .guarded fun run => hostAccessDone_answers run decay
  case failedHeadCompletion => exact .guarded fun run => .arbitrated run .failedHead
  case copyBurstCompletion decay => exact .guarded fun run => copyBurstDone_answers run decay
  case unwindEnd => exact .guarded fun run => .arbitrated run .unwindEnd
  case patternBurstCompletion => exact .guarded patternBurstDone_answers
  case checkBurstCompletion decay => exact .guarded fun run => checkBurstDone_answers run decay
  case logWaitAppend => exact .guarded fun _ => .inl .logWait
  case openRowTimerExpiry d => exact .guarded fun run => openRowExpired_answers run d
  case sliceTimerExpiry => exact .guarded sliceExpired_answers
  case externalSensorTimeout => exact .guarded fun run => .arbitrated run .sensorTimeout
  case heldExpiryTaken => exact .guarded fun run => .arbitrated run .heldExpiry
  case scanVisit => exact .guarded scan_answers
  case forcedClear => exact .guarded fun run => .arbitrated run .forcedClear
  case stretchTimerExpiry k => exact .guarded fun run => stretchExpired_answers run k
  case conversionCompletion measured => exact .guarded fun run => conversionDone_answers run measured
  case softReset value => exact .guarded fun run => writeControl_answers run value
  case rqPost => exact .guarded post_answers
  case stageData value => exact .guarded fun _ => stage_answers value
  case cqData =>
    split_ifs
    · exact readCompletionData_answers
    · exact .host _ id
  case cqPop => exact .guarded popCompletion_answers
  case evtWrite value => exact .guarded fun _ => writeEvents_answers value
  case evtMaskWrite value => exact .guarded fun _ => writeMask_answers value
  case cfgTbaseWrite value => exact .guarded fun _ => writeTbase_answers value
  case cfgPageWrite value => exact .guarded fun _ => writePage_answers value
  case cfgEpochWrite value => exact .guarded fun _ => writeEpochDivider_answers value
  case cfgAgeWrite value => exact .guarded fun _ => writeAgeLimit_answers value
  case cfgWarmWrite value => exact .guarded fun _ => writeWarm_answers value
  case cfgHotWrite value => exact .guarded fun _ => writeHot_answers value
  case cfgModeWrite value => exact .guarded fun run => writeMode_answers run value
  case registerWrite address value => exact .guarded fun run => writeRegister_answers run address value
  case probeStart => exact .guarded fun run => takeCommand_answers run 1 fun _ _ => probeStartBody_accepted
  case probeAbort => exact .guarded fun run => takeCommand_answers run 2 fun _ _ => probeAbortBody_accepted
  case retire => exact .guarded fun run => takeCommand_answers run 3 fun _ _ => retireBody_accepted
  case recordRead => exact .guarded fun run => takeCommand_answers run 4 fun _ _ => recordReadBody_accepted
  case recordWrite => exact .guarded fun run => takeCommand_answers run 5 fun _ _ => recordWriteBody_accepted
  case logRead => exact .guarded fun run => takeCommand_answers run 6 fun _ _ => logReadBody_accepted
  case logPop => exact .guarded fun run => takeCommand_answers run 7 fun _ _ => logPopBody_accepted
  case tempSupply => exact .guarded fun run => takeCommand_answers run 8 fun _ _ => tempSupplyBody_accepted
  case badCmd code => exact .guarded fun run => takeCommand_answers run code fun _ _ => commandBody_accepted code

/-- A step is an answer from the state with the commands that stay behind. -/
theorem step_answers (h : step s = .next t) : ∃ rest, Answers { s with pending := rest } t := by
  unfold step at h
  split at h
  · cases h
    exact ⟨s.pending, .guarded fun _ => .inl .time⟩
  · exact ⟨_, exec_answers h⟩

/-- The three goals behind a law that every step keeps: it outlasts each change and the arbiter's choice, and is blind to the
queue of commands. A premise may be used at the changes. -/
theorem step_keeps {premise law : State → Prop} (blind : ∀ s rest, law s → law { s with pending := rest })
    (premise_blind : ∀ s rest, premise s → premise { s with pending := rest })
    (unarbitrated : ∀ s t, premise s → law s → Unarbitrated s t → law t)
    (arbitrated : ∀ s u, premise s → law s → running s = true → Arbitrated s u → law u)
    (choice : ∀ s, law s → law (arbitrate s)) (given : premise s) (before : law s) (h : step s = .next t) : law t := by
  obtain ⟨rest, answer | ⟨run, u, change, rfl⟩⟩ := step_answers h
  · exact unarbitrated _ _ (premise_blind s rest given) (blind s rest before) answer
  · exact choice u (arbitrated _ _ (premise_blind s rest given) (blind s rest before) run change)

end Sys2Proof.Machine
end

section
/-! PROOFS. Grants: what a departure from the due queue changes, and what a grant leaves in each part of the state. -/

namespace Sys2Proof.Machine

open Sys2Proof

/-- A state is another one but for departures from the due queue (R31, R70): the records change in their queued flags alone, which
can only clear, entries leave in place, the scan may resume and FORCED may clear. -/
structure Departure (s t : State) : Prop where
  frame : t = { s with
    records := t.records
    scheduler := { s.scheduler with
      due := t.scheduler.due, cursor := t.scheduler.cursor, forced := t.scheduler.forced } }
  record : ∀ r, recordOf t r = { recordOf s r with queued := (recordOf t r).queued }
  queued : ∀ r, (recordOf t r).queued = true → (recordOf s r).queued = true
  due : t.scheduler.due.Sublist s.scheduler.due
  cursor : t.scheduler.cursor = s.scheduler.cursor ∨
    t.scheduler.cursor = s.scheduler.cursor.map (fun c => { c with paused := false })
  forced : t.scheduler.forced = s.scheduler.forced ∨ t.scheduler.forced = false
  law : forcedLaw s → forcedLaw t

variable {s t u : State}

theorem Departure.refl : Departure s s :=
  ⟨rfl, fun _ => rfl, fun _ => id, List.Sublist.refl _, .inl rfl, .inl rfl, id⟩

theorem Departure.trans (first : Departure s t) (second : Departure t u) : Departure s u where
  frame := by
    have frame := second.frame
    rw [first.frame] at frame
    exact frame
  record r := by rw [second.record, first.record]
  queued r h := first.queued r (second.queued r h)
  due := second.due.trans first.due
  cursor := by
    obtain h1 | h1 := first.cursor <;> obtain h2 | h2 := second.cursor <;> rw [h2, h1]
    · exact .inl rfl
    · exact .inr rfl
    · exact .inr rfl
    · exact .inr (by rw [Option.map_map]; rfl)
  forced := by
    obtain h2 | h2 := second.forced
    · rw [h2]
      exact first.forced
    · exact .inr h2
  law h := second.law (first.law h)

/-- After the test for its end, FORCED has not outlasted its conditions (R73). -/
theorem forcedLaw_testForced : forcedLaw (testForced s) := by
  rw [testForced_eq]
  intro forced
  have : forcedMayClear s = false := by simp_all
  exact this

theorem departDue_departure (r : Row) : Departure s (departDue r s) := by
  obtain ⟨cursor, forced, eq, keeps, resumes⟩ := departDue_eq s r
  refine ⟨by rw [eq], fun q => ?_, fun q => ?_, ?_, by rw [eq]; exact resumes, ?_, fun _ => forcedLaw_testForced⟩
  · rw [recordOf_departDue]
    split_ifs with h
    · rw [h]
    · rfl
  · rw [recordOf_departDue]
    split_ifs
    · simp
    · exact id
  · rw [departDue_due]
    exact List.filter_sublist
  · rw [eq]
    cases forced with
    | false => exact .inr rfl
    | true => exact .inl (by cases h : s.scheduler.forced <;> simp_all)

theorem departIfQueued_departure (r : Row) : Departure s (departIfQueued r s) := by
  unfold departIfQueued
  split_ifs
  · exact departDue_departure r
  · exact .refl

theorem activationCredit_departure (op : PortOperation) : Departure s (activationCredit op s) := by
  unfold activationCredit
  generalize op.activates = rows
  induction rows generalizing s with
  | nil => exact .refl
  | cons r rest ih => exact (departIfQueued_departure r).trans ih

/-! ### The open-row effects (R26) -/

/-- The open-row effects reach the port's devices alone. -/
theorem openRowEffects_eq (op : PortOperation) : openRowEffects op s = { s with
    port := { s.port with devices := (openRowEffects op s).port.devices } } := by
  have fold : ∀ (l : List DeviceId) (s : State), l.foldl (fun t d => stopOpenRowTimer d t) s = { s with
      port := { s.port with devices := (l.foldl (fun t d => stopOpenRowTimer d t) s).port.devices } } := by
    intro l
    induction l with
    | nil => intro s; rfl
    | cons d rest ih =>
      intro s
      rw [List.foldl_cons, ih (stopOpenRowTimer d s)]
      rfl
  unfold openRowEffects
  split_ifs
  · rfl
  · exact fold _ s

@[simp] theorem openRowEffects_pause (op : PortOperation) : (openRowEffects op s).port.pause = s.port.pause := by
  rw [openRowEffects_eq]

@[simp] theorem openRowEffects_initCycle (op : PortOperation) :
    (openRowEffects op s).port.initCycle = s.port.initCycle := by
  rw [openRowEffects_eq]

/-- The timers of the addressed devices stop and their close claims go, but for a hit. -/
theorem deviceState_openRowEffects (op : PortOperation) (d : DeviceId) :
    deviceState (openRowEffects op s) d =
      if d ∈ op.devices ∧ op.isHit = false then { deviceState s d with timer := .stopped, closeClaim := false }
      else deviceState s d := by
  have fold : ∀ (l : List DeviceId) (s : State), deviceState (l.foldl (fun t d => stopOpenRowTimer d t) s) d =
      if d ∈ l then { deviceState s d with timer := .stopped, closeClaim := false } else deviceState s d := by
    intro l
    induction l with
    | nil => intro s; rfl
    | cons e rest ih =>
      intro s
      rw [List.foldl_cons, ih, deviceState_stopOpenRowTimer]
      by_cases here : d = e <;> by_cases later : d ∈ rest <;> simp [here, later]
  unfold openRowEffects
  split_ifs with hit listed listed
  · simp [hit] at listed
  · rfl
  · rw [fold, if_pos listed.1]
  · rw [fold, if_neg fun h => listed ⟨h, by simpa using hit⟩]

/-! ### The claimant and the grant -/

/-- What the claimant does at its grant reaches its own block: no claimant touches the port. -/
theorem claimantEffects_port (claim : Claim) : (claimantEffects claim s).port = s.port := by
  cases claim with
  | refresh urgent =>
    simp only [claimantEffects, takeRefreshHead]
    split
    · rfl
    · rw [(departDue_departure _).frame]
  | request =>
    simp only [claimantEffects, fillAccessRecord]
    split <;> rfl
  | close d => rfl
  | copy => rfl
  | probe k => rfl
  | init => rfl

section

variable {claim : Claim} {op : PortOperation} (granted : descriptor s claim = some op)
include granted

/-- What a grant leaves in the port (R26, R29). -/
theorem grantClaim_port : (grantClaim claim s).port = { s.port with
    operation := some op, devices := (openRowEffects op s).port.devices, hostGrants := grantCount s claim } := by
  have devices : (openRowEffects op (claimantEffects claim s)).port.devices = (openRowEffects op s).port.devices := by
    apply Quad.ext_get
    intro d
    have port := claimantEffects_port (s := s) claim
    have same : deviceState (claimantEffects claim s) d = deviceState s d := by rw [deviceState, port]; rfl
    have left := deviceState_openRowEffects (s := claimantEffects claim s) op d
    rw [same, ← deviceState_openRowEffects] at left
    exact left
  simp only [grantClaim, granted]
  rw [(activationCredit_departure op).frame]
  simp only [occupyPort_port, devices, openRowEffects_pause, openRowEffects_initCycle, claimantEffects_port]

/-- What a grant leaves in every other part is what the claimant does, and departures from the due queue. -/
theorem grantClaim_departure : Departure { claimantEffects claim s with port := (grantClaim claim s).port }
    (grantClaim claim s) := by
  have eq : { claimantEffects claim s with port := (grantClaim claim s).port } = occupyPort op
      { openRowEffects op (claimantEffects claim s) with
        port := { (openRowEffects op (claimantEffects claim s)).port with hostGrants := grantCount s claim } } := by
    conv_lhs => simp only [grantClaim, granted]; rw [(activationCredit_departure op).frame]
    rw [openRowEffects_eq]
    rfl
  rw [eq]
  simp only [grantClaim, granted]
  exact activationCredit_departure op

/-- After a grant its operation is on the port. -/
theorem grantClaim_operation : (grantClaim claim s).port.operation = some op := by
  rw [grantClaim_port granted]

theorem deviceState_grantClaim (d : DeviceId) : deviceState (grantClaim claim s) d =
    if d ∈ op.devices ∧ op.isHit = false then { deviceState s d with timer := .stopped, closeClaim := false }
    else deviceState s d := by
  rw [← deviceState_openRowEffects, deviceState, grantClaim_port granted]
  rfl

theorem grantClaim_requests : (grantClaim claim s).requests = (claimantEffects claim s).requests := by
  rw [(grantClaim_departure granted).frame]

theorem grantClaim_copy : (grantClaim claim s).copy = (claimantEffects claim s).copy := by
  rw [(grantClaim_departure granted).frame]

theorem grantClaim_probes : (grantClaim claim s).probes = (claimantEffects claim s).probes := by
  rw [(grantClaim_departure granted).frame]

theorem grantClaim_refreshing :
    (grantClaim claim s).scheduler.refreshing = (claimantEffects claim s).scheduler.refreshing := by
  rw [(grantClaim_departure granted).frame]

end

/-! ### What each claimant does -/

/-- The refresh engine becomes busy and the head of the due queue departs (R74). -/
theorem takeRefreshHead_eq {e : DueEntry} {rest : List DueEntry} (head : s.scheduler.due = e :: rest) :
    takeRefreshHead s = departDue e.row { s with scheduler := { s.scheduler with refreshing := true } } := by
  rw [takeRefreshHead, head]

theorem fillAccessRecord_eq {q : Request} {rest : List Request} (head : s.requests.requests = q :: rest) :
    fillAccessRecord s = { s with requests := { s.requests with
      access := some { target := (targetOf s q.row).1, redirected := (targetOf s q.row).2, discarded := false } } } := by
  rw [fillAccessRecord, head]

/-- The descriptor of a ROW REFRESH names the row at the head of the due queue. -/
theorem refresh_descriptor {urgent : Bool} {op : PortOperation} (granted : descriptor s (.refresh urgent) = some op) :
    ∃ e rest, s.scheduler.due = e :: rest ∧ op = .rowRefresh e.row := by
  simp only [descriptor, Option.map_eq_some_iff, List.head?_eq_some_iff] at granted
  obtain ⟨e, ⟨rest, head⟩, eq⟩ := granted
  exact ⟨e, rest, head, eq.symm⟩

theorem request_descriptor {op : PortOperation} (granted : descriptor s .request = some op) :
    ∃ q rest, s.requests.requests = q :: rest ∧ op = hostDescriptor s q := by
  simp only [descriptor, Option.map_eq_some_iff, List.head?_eq_some_iff] at granted
  obtain ⟨q, ⟨rest, head⟩, eq⟩ := granted
  exact ⟨q, rest, head, eq.symm⟩

theorem copy_descriptor {op : PortOperation} (granted : descriptor s .copy = some op) :
    ∃ j rest, s.copy.queue = j :: rest ∧ op = .copyBurst j.rows.1 j.rows.2 j.progress := by
  simp only [descriptor, Option.map_eq_some_iff, List.head?_eq_some_iff] at granted
  obtain ⟨j, ⟨rest, head⟩, eq⟩ := granted
  exact ⟨j, rest, head, eq.symm⟩

/-- A probe context's descriptor is a burst of its stage (R24). -/
theorem probe_descriptor {k : ContextId} {op : PortOperation} (granted : descriptor s (.probe k) = some op) :
    ∃ row burst bytes, op = .patternBurst k row burst bytes ∨ op = .checkBurst k row burst bytes := by
  simp only [descriptor] at granted
  split at granted
  · exact ⟨_, _, _, .inl (Option.some.inj granted).symm⟩
  · exact ⟨_, _, _, .inr (Option.some.inj granted).symm⟩
  all_goals cases granted

/-- A claimant changes a context in its LFSR register alone (R122). -/
theorem contextOf_claimantEffects (claim : Claim) (k : ContextId) :
    contextOf (claimantEffects claim s) k =
      if claim = .probe k then advanceRegister (contextOf s k) else contextOf s k := by
  cases claim with
  | refresh urgent =>
    simp only [claimantEffects, takeRefreshHead, reduceCtorEq, if_false]
    split
    · rfl
    · rw [(departDue_departure _).frame]
      rfl
  | request =>
    simp only [claimantEffects, fillAccessRecord]
    split <;> rfl
  | close d => rfl
  | copy => rfl
  | probe m =>
    simp only [claimantEffects, contextOf_setContext, Claim.probe.injEq]
    by_cases h : k = m
    · rw [if_pos h, if_pos h.symm, h]
    · rw [if_neg h, if_neg fun e => h e.symm]
  | init => rfl

theorem advanceRegister_eq (c : ProbeContext) :
    advanceRegister c =
      if c.pattern = .lfsr then { c with lfsr := lfsrSteps 256 (burstRegister c) } else c := by
  unfold advanceRegister
  split <;> simp_all [Config.burstColumns]

theorem contextOf_grantClaim {claim : Claim} {op : PortOperation} (granted : descriptor s claim = some op)
    (k : ContextId) : contextOf (grantClaim claim s) k =
      if claim = .probe k then advanceRegister (contextOf s k) else contextOf s k := by
  rw [← contextOf_claimantEffects, contextOf, grantClaim_probes granted]
  rfl

/-! ### The arbiter's choice -/

/-- All that the arbiter can do at an event, with the descriptor it hands to the port (R25). -/
theorem arbitrate_grants :
    (arbitrate s = s ∧ (s.port.operation = none → chooseClaim s = none)) ∨
    ∃ claim op, s.port.operation = none ∧ chooseClaim s = some claim ∧ descriptor s claim = some op ∧
      arbitrate s = grantClaim claim s := by
  obtain ⟨busy, eq⟩ | ⟨-, none, eq⟩ | ⟨claim, free, chosen, eq⟩ := arbitrate_cases s
  · exact .inl ⟨eq, fun free => by rw [free] at busy; cases busy⟩
  · exact .inl ⟨eq, fun _ => none⟩
  · obtain ⟨op, granted⟩ := descriptor_of_raised (chooseClaim_raised chosen).1
    exact .inr ⟨claim, op, free, chosen, granted, eq⟩

/-- The arbiter changes a context in its LFSR register alone. -/
theorem contextOf_arbitrate (k : ContextId) : ∃ lfsr, contextOf (arbitrate s) k = { contextOf s k with lfsr := lfsr } := by
  obtain ⟨eq, -⟩ | ⟨claim, op, -, -, granted, eq⟩ := arbitrate_grants (s := s) <;> rw [eq]
  · exact ⟨_, rfl⟩
  · rw [contextOf_grantClaim granted, advanceRegister_eq]
    split_ifs <;> exact ⟨_, rfl⟩

@[simp] theorem contextOf_arbitrate_state (k : ContextId) : (contextOf (arbitrate s) k).state = (contextOf s k).state := by
  obtain ⟨_, eq⟩ := contextOf_arbitrate (s := s) k
  rw [eq]

end Sys2Proof.Machine
end

section
/-! PROOFS. Which event flags each operation may raise, and which parts of the state it leaves as they were. -/

namespace Sys2Proof.Machine

open Sys2Proof

/-- The host interface of a state is another one's but for event flags of a mask that may have been raised, HIRQ# following. -/
def Raises (mask : BitVec 10) (s t : State) : Prop :=
  t.host = s.host ∨ ∃ flags, flags ||| mask = mask ∧ t.host = (withEvents flags s).host

section

variable {mask wider : BitVec 10} {s t u : State}

theorem Raises.of_host_eq (h : t.host = s.host) : Raises mask s t := .inl h

theorem Raises.refl : Raises mask s s := .inl rfl

theorem or_absorb_trans {f g m : BitVec 10} (first : f ||| m = m) (second : g ||| m = m) : (f ||| g) ||| m = m := by
  rw [BitVec.or_assoc, second, first]

theorem Raises.trans (first : Raises mask s t) (second : Raises mask t u) : Raises mask s u := by
  obtain h1 | ⟨f, hf, h1⟩ := first <;> obtain h2 | ⟨g, hg, h2⟩ := second
  · exact .inl (h2.trans h1)
  · exact .inr ⟨g, hg, by rw [h2]; simp only [withEvents, h1]⟩
  · exact .inr ⟨f, hf, h2.trans h1⟩
  · refine .inr ⟨f ||| g, or_absorb_trans hf hg, ?_⟩
    rw [h2]
    simp only [withEvents, h1, BitVec.or_assoc]

theorem Raises.mono (h : Raises mask s t) (sub : mask ||| wider = wider) : Raises wider s t := by
  obtain h | ⟨f, hf, h⟩ := h
  · exact .inl h
  · refine .inr ⟨f, ?_, h⟩
    rw [← sub, ← BitVec.or_assoc, hf]

theorem raiseEvent_raises (flag : EventFlag) (sub : flag.word ||| mask = mask) : Raises mask s (raiseEvent flag s) :=
  .inr ⟨flag.word, sub, rfl⟩

/-- Raising flags keeps the law of the interrupt, HIRQ# being evaluated anew (R177). -/
theorem Raises.interruptLaw (h : Raises mask s t) (law : interruptLaw s) : interruptLaw t := by
  unfold Machine.interruptLaw at *
  obtain h | ⟨f, -, h⟩ := h <;> rw [h]
  · exact law
  · simp [withEvents]

/-- A flag outside the mask is as before. -/
theorem Raises.getLsbD (h : Raises mask s t) {i : Nat} (outside : mask.getLsbD i = false) :
    t.host.events.getLsbD i = s.host.events.getLsbD i := by
  obtain h | ⟨f, sub, h⟩ := h <;> rw [h]
  have clear : (f ||| mask).getLsbD i = false := by rw [sub, outside]
  rw [BitVec.getLsbD_or, outside, Bool.or_false] at clear
  simp [withEvents, clear]

/-- A flag that is set stays set. -/
theorem Raises.getLsbD_of_set (h : Raises mask s t) {i : Nat} (set : s.host.events.getLsbD i = true) :
    t.host.events.getLsbD i = true := by
  obtain h | ⟨f, sub, h⟩ := h <;> rw [h]
  · exact set
  · simp [withEvents, set]

end

/-! ### The request engine: CQ_READY alone -/

section

variable (s : State)

theorem checkHead_raises : Raises 0x004#10 s (checkHead s) := by
  rw [checkHead_eq]
  split_ifs
  · exact .refl
  · obtain ⟨ended, -, -, -, host, -⟩ := endFailedHeads_spec s _ rfl
    split_ifs at host
    · exact .of_host_eq host
    · exact .inr ⟨_, by decide, host⟩

theorem endAccess_raises (data : List Byte) : Raises 0x004#10 s (endAccess data s) := by
  unfold endAccess
  split
  · exact .refl
  · dsimp only
    split_ifs
    · exact .of_host_eq rfl
    · unfold endRequest
      split
      · exact .of_host_eq rfl
      · exact .trans (.inr ⟨_, by decide, rfl⟩) (checkHead_raises _)

/-! ### Aborts and log entries: LOG_READY alone -/

theorem enterDone_raises (k : ContextId) (outcome : PendingOutcome) : Raises 0x010#10 s (enterDone k outcome s) := by
  obtain ⟨-, h⟩ | ⟨-, h⟩ := enterDone_cases s k outcome <;> rw [h]
  · exact .inr ⟨_, by decide, rfl⟩
  · exact .of_host_eq rfl

theorem serveWaiting_raises : Raises 0x010#10 s (serveWaiting s) := by
  unfold serveWaiting
  split
  · exact .refl
  · split_ifs
    · exact .inr ⟨_, by decide, rfl⟩
    · exact .refl

@[simp] theorem changeRedirect_host (i : ReservedIndex) (state : RedirectState) (owner : Owner) :
    (changeRedirect i state owner s).host = s.host := by
  rw [changeRedirect_eq]

@[simp] theorem abandonJob_host (isJob : CopyJob → Bool) : (abandonJob isJob s).host = s.host := by
  obtain ⟨-, h⟩ | ⟨_, _, -, h, -⟩ := abandonJob_cases s isJob <;> rw [h]

@[simp] theorem beginRestore_host (k : ContextId) : (beginRestore k s).host = s.host := by
  rw [beginRestore_eq]

theorem abortContext_raises (reason : AbortReason) (k : ContextId) : Raises 0x010#10 s (abortContext reason k s) := by
  unfold abortContext
  split
  · unfold abortParking
    refine .trans (t := setContext k { contextOf (abandonJob (isParkOf k) s) k with abortReason := some reason }
      (abandonJob (isParkOf k) s)) (.of_host_eq (abandonJob_host s _)) ?_
    cases reason with
    | reset => exact .of_host_eq rfl
    | host => exact enterDone_raises _ _ _
    | thermal => exact enterDone_raises _ _ _
  · exact .of_host_eq (beginRestore_host _ _)
  · exact .of_host_eq (beginRestore_host _ _)
  · exact .of_host_eq (beginRestore_host _ _)
  · split_ifs
    · exact .of_host_eq rfl
    · exact .refl
  · split_ifs
    · exact .of_host_eq rfl
    · exact .refl
  · exact .refl

theorem abortAll_raises (reason : AbortReason) : Raises 0x010#10 s (abortAll reason s) := by
  unfold abortAll
  generalize allContexts = l
  induction l generalizing s with
  | nil => exact .refl
  | cons k rest ih => exact (abortContext_raises s reason k).trans (ih _)

/-! ### Job and trial ends: LOG_READY, RESET_DONE and RETIRE_DONE -/

@[simp] theorem departIfQueued_host (r : Row) : (departIfQueued r s).host = s.host := by
  rw [(departIfQueued_departure r).frame]

@[simp] theorem retireRecord_host (r : Row) (i : ReservedIndex) : (retireRecord r i s).host = s.host :=
  departIfQueued_host s r

theorem testUnwind_raises : Raises 0x002#10 s (testUnwind s) := by
  obtain ⟨-, h⟩ | ⟨-, h⟩ := testUnwind_cases s <;> rw [h]
  · exact .inr ⟨_, by decide, rfl⟩
  · exact .refl

@[simp] theorem parkDone_host (k : ContextId) : (parkDone k s).host = s.host := by
  unfold parkDone
  dsimp only
  split
  · exact departIfQueued_host s _
  all_goals rfl

@[simp] theorem applyOutcome_host (c : ProbeContext) : (applyOutcome c s).host = s.host := by
  unfold applyOutcome
  split <;> rfl

@[simp] theorem reinstate_host (c : ProbeContext) : (reinstate c s).host = s.host := by
  unfold reinstate
  split <;> rfl

theorem restoreDone_raises (k : ContextId) : Raises 0x010#10 s (restoreDone k s) := by
  unfold restoreDone
  dsimp only
  split
  · split
    · exact .trans (.of_host_eq (applyOutcome_host s _)) (enterDone_raises _ _ _)
    · exact .of_host_eq (reinstate_host s _)
    · exact .trans (.of_host_eq (reinstate_host s _)) (enterDone_raises _ _ _)
    · exact .trans (.of_host_eq (reinstate_host s _)) (enterDone_raises _ _ _)
  all_goals exact .refl

theorem retireDone_raises (j : CopyJob) : Raises 0x020#10 s (retireDone j s) := by
  refine .trans (t := retireRecord j.home j.index (changeRedirect j.index .spareActive .command s))
    (.of_host_eq ?_) (.inr ⟨_, by decide, rfl⟩)
  rw [retireRecord_host, changeRedirect_host]

theorem tellOwner_raises {mask : BitVec 10} {tell : ContextId → State → State} (h : ∀ k t, Raises mask t (tell k t))
    (owner : Owner) : Raises mask s (tellOwner tell owner s) := by
  cases owner with
  | context k => exact h k s
  | command => exact .refl

theorem jobDone_raises (j : CopyJob) : Raises 0x032#10 s (jobDone j s) := by
  unfold jobDone
  split
  · exact .trans (.of_host_eq (changeRedirect_host s _ _ _))
      (tellOwner_raises _ (fun k t => .of_host_eq (parkDone_host t k)) _)
  · refine .trans ?_ ((testUnwind_raises _).mono (by decide))
    exact .trans (t := removeRedirect j.index s) (.of_host_eq rfl)
      (tellOwner_raises _ (fun k t => (restoreDone_raises t k).mono (by decide)) _)
  · exact (retireDone_raises s j).mono (by decide)

theorem copyBurstResult_raises : Raises 0x032#10 s (copyBurstResult s) := by
  unfold copyBurstResult
  split
  · exact .refl
  · dsimp only
    split_ifs
    · exact .of_host_eq rfl
    · unfold advanceJob
      split
      · exact .of_host_eq rfl
      · split_ifs
        · exact .of_host_eq rfl
        · exact .trans (.of_host_eq rfl) (jobDone_raises _ _)

theorem finishProbe_raises (k : ContextId) : Raises 0x010#10 s (finishProbe k s) := by
  unfold finishProbe
  dsimp only
  split_ifs
  · unfold convert
    refine .trans (.of_host_eq ?_) (enterDone_raises _ _ _)
    exact (departIfQueued_host _ _).trans (changeRedirect_host _ _ _ _)
  · exact .of_host_eq (beginRestore_host _ _)

theorem endTrial_raises (k : ContextId) : Raises 0x010#10 s (endTrial k s) := by
  unfold endTrial
  dsimp only
  split_ifs
  · exact .of_host_eq rfl
  · exact .of_host_eq rfl
  · exact .trans (.of_host_eq rfl) (finishProbe_raises _ _)
  · exact .trans (.of_host_eq rfl) (finishProbe_raises _ _)

theorem checkBurstResult_raises (k : ContextId) (differing : List Nat) :
    Raises 0x010#10 s (checkBurstResult k differing s) := by
  unfold checkBurstResult
  split
  · dsimp only
    split_ifs
    · exact .of_host_eq rfl
    · exact .trans (.of_host_eq rfl) (endTrial_raises _ _)
  all_goals exact .refl

@[simp] theorem patternBurstResult_host (k : ContextId) : (patternBurstResult k s).host = s.host := by
  unfold patternBurstResult
  dsimp only
  split
  · split_ifs <;> rfl
  all_goals rfl

/-! ### Readings: THERMAL_CHANGE, SENSOR_STALE, and the aborts' LOG_READY -/

theorem enterThermal_raises (new : ThermalState) : Raises 0x050#10 s (enterThermal new s) := by
  obtain ⟨-, h⟩ | ⟨-, -, h⟩ | ⟨-, -, h⟩ := enterThermal_cases s new <;> rw [h]
  · exact .refl
  · exact .inr ⟨_, by decide, rfl⟩
  · have change : Raises 0x050#10 s
        (raiseEvent .thermalChange { s with supervisor := { s.supervisor with thermal := new } }) :=
      .inr ⟨_, by decide, rfl⟩
    exact change.trans ((abortAll_raises _ _).mono (by decide))

theorem readingArrives_raises (reading : Int) : Raises 0x050#10 s (readingArrives reading s) := by
  unfold readingArrives
  dsimp only
  generalize (if s.supervisor.window.length < Config.windowReadings then s.supervisor.window
    else s.supervisor.window.drop 1) ++ [reading] = window
  split_ifs
  · exact .of_host_eq rfl
  · exact .trans (.of_host_eq rfl) (enterThermal_raises _ _)

theorem testSensorTimeout_raises : Raises 0x0D0#10 s (testSensorTimeout s) := by
  unfold testSensorTimeout sensorTimeout
  split_ifs
  · have heat : Raises 0x0D0#10 s
        (enterThermal .hot { s with supervisor := { s.supervisor with window := [], stale := 0 } }) :=
      .trans (.of_host_eq rfl) ((enterThermal_raises _ _).mono (by decide))
    exact heat.trans (raiseEvent_raises _ (by decide))
  · exact .refl

theorem supervisorPassStart_raises : Raises 0x0D0#10 s (supervisorPassStart s) := by
  unfold supervisorPassStart
  split
  · exact .trans (.of_host_eq rfl) (testSensorTimeout_raises _)
  · split <;> exact .of_host_eq rfl

theorem passStart_raises : Raises 0x0D0#10 s (passStart s) :=
  .trans (.of_host_eq rfl) (supervisorPassStart_raises _)

theorem takeExpiry_raises : Raises 0x1D0#10 s (takeExpiry s) := by
  have pass : ∀ (t : State) (c : Prop) [Decidable c], Raises 0x1D0#10 t (if c then passStart t else t) := by
    intro t c _
    split_ifs
    · exact (passStart_raises t).mono (by decide)
    · exact .refl
  have late : ∀ (t : State) (c : Prop) [Decidable c], Raises 0x1D0#10 t (if c then overrun t else t) := by
    intro t c _
    split_ifs
    · exact .inr ⟨EventFlag.overrun.word, by decide, rfl⟩
    · exact .refl
  unfold takeExpiry
  dsimp only
  generalize started : ({ s with scheduler := _ } : State) = s1
  have begun : Raises 0x1D0#10 s s1 := .of_host_eq (by rw [← started])
  exact begun.trans ((pass s1 _).trans (.trans (late _ _) (.of_host_eq rfl)))

theorem releaseHeld_raises : Raises 0x1D0#10 s (releaseHeld s) := by
  unfold releaseHeld
  split_ifs
  · exact takeExpiry_raises s
  · exact .refl

/-! ### The scan: AGE_DEMOTE, and what a held expiry raises -/

@[simp] theorem testForced_host : (testForced s).host = s.host := by
  rw [testForced_eq]

theorem advanceScan_raises (c : ScanCursor) : Raises 0x1D0#10 s (advanceScan c s) := by
  unfold advanceScan
  split_ifs
  · exact .of_host_eq rfl
  · exact .of_host_eq rfl
  · unfold endScan
    dsimp only
    generalize moved : ({ s with scheduler := _ } : State) = s1
    have begun : Raises 0x1D0#10 s s1 := .of_host_eq (by rw [← moved])
    exact begun.trans ((releaseHeld_raises s1).trans (.of_host_eq (testForced_host _)))

theorem ageDemotion_raises (row : Row) : Raises 0x200#10 s (ageDemotion row s) := by
  obtain ⟨-, -, h⟩ | ⟨-, h⟩ := ageDemotion_cases s row <;> rw [h]
  · exact .inr ⟨_, by decide, rfl⟩
  · exact .refl

theorem visitRow_raises (c : ScanCursor) : Raises 0x3D0#10 s (visitRow c s) := by
  have demoted : Raises 0x3D0#10 s _ :=
    (ageDemotion_raises s { device := c.device, number := c.row }).mono (by decide)
  unfold visitRow
  dsimp only
  generalize ageDemotion { device := c.device, number := c.row } s = t at demoted ⊢
  refine demoted.trans ?_
  split_ifs
  · exact .of_host_eq rfl
  · have appended : Raises 0x3D0#10 t (appendDue { device := c.device, number := c.row } c.serial t) := .of_host_eq rfl
    exact appended.trans ((advanceScan_raises _ c).mono (by decide))
  · exact (advanceScan_raises _ c).mono (by decide)

end

end Sys2Proof.Machine
end

section
/-! PROOFS. What the operations leave as it was, block by block: the fields behind each relation, the scheduler at a departure,
and the probes that may be stopped. -/

namespace Sys2Proof.Machine

open Sys2Proof

section

variable {s t : State}

/-! ### Fields behind the relations -/

theorem JobChange.port (h : JobChange s t) : t.port = s.port := by
  obtain ⟨_, _, _, _, _, _, _, _, _, _, _, _, _, _, rfl⟩ := h
  rfl

theorem JobChange.requests (h : JobChange s t) : t.requests = s.requests := by
  obtain ⟨_, _, _, _, _, _, _, _, _, _, _, _, _, _, rfl⟩ := h
  rfl

theorem JobChange.supervisor (h : JobChange s t) : t.supervisor = s.supervisor := by
  obtain ⟨_, _, _, _, _, _, _, _, _, _, _, _, _, _, rfl⟩ := h
  rfl

theorem JobChange.config (h : JobChange s t) : t.config = s.config := by
  obtain ⟨_, _, _, _, _, _, _, _, _, _, _, _, _, _, rfl⟩ := h
  rfl

theorem JobChange.deviceCount (h : JobChange s t) : t.deviceCount = s.deviceCount := by
  obtain ⟨_, _, _, _, _, _, _, _, _, _, _, _, _, _, rfl⟩ := h
  rfl

theorem JobChange.array (h : JobChange s t) : t.array = s.array := by
  obtain ⟨_, _, _, _, _, _, _, _, _, _, _, _, _, _, rfl⟩ := h
  rfl

theorem JobChange.powerCycle (h : JobChange s t) : t.powerCycle = s.powerCycle := by
  obtain ⟨_, _, _, _, _, _, _, _, _, _, _, _, _, _, rfl⟩ := h
  rfl

theorem JobChange.pending (h : JobChange s t) : t.pending = s.pending := by
  obtain ⟨_, _, _, _, _, _, _, _, _, _, _, _, _, _, rfl⟩ := h
  rfl

theorem JobChange.buffer (h : JobChange s t) : t.copy.buffer = s.copy.buffer := by
  obtain ⟨_, _, _, _, _, _, _, _, _, _, _, _, _, _, rfl⟩ := h
  rfl

theorem ProbeChange.scheduler (h : ProbeChange s t) : t.scheduler = s.scheduler := by
  obtain ⟨_, _, _, _, _, _, _, _, rfl⟩ := h
  rfl

theorem ProbeChange.records (h : ProbeChange s t) : t.records = s.records := by
  obtain ⟨_, _, _, _, _, _, _, _, rfl⟩ := h
  rfl

theorem ProbeChange.controller (h : ProbeChange s t) : t.controller = s.controller := by
  obtain ⟨_, _, _, _, _, _, _, _, rfl⟩ := h
  rfl

theorem ProbeChange.supervisor (h : ProbeChange s t) : t.supervisor = s.supervisor := by
  obtain ⟨_, _, _, _, _, _, _, _, rfl⟩ := h
  rfl

theorem ProbeChange.retire (h : ProbeChange s t) : t.copy.retire = s.copy.retire := by
  obtain ⟨_, _, _, _, _, _, _, _, rfl⟩ := h
  rfl

theorem PassChange.port (h : PassChange s t) : t.port = s.port := by
  obtain ⟨_, _, _, _, _, _, _, _, _, _, rfl⟩ := h
  rfl

theorem PassChange.requests (h : PassChange s t) : t.requests = s.requests := by
  obtain ⟨_, _, _, _, _, _, _, _, _, _, rfl⟩ := h
  rfl

theorem PassChange.records (h : PassChange s t) : t.records = s.records := by
  obtain ⟨_, _, _, _, _, _, _, _, _, _, rfl⟩ := h
  rfl

theorem PassChange.config (h : PassChange s t) : t.config = s.config := by
  obtain ⟨_, _, _, _, _, _, _, _, _, _, rfl⟩ := h
  rfl

theorem PassChange.controller (h : PassChange s t) : t.controller = s.controller := by
  obtain ⟨_, _, _, _, _, _, _, _, _, _, rfl⟩ := h
  rfl

theorem PassChange.deviceCount (h : PassChange s t) : t.deviceCount = s.deviceCount := by
  obtain ⟨_, _, _, _, _, _, _, _, _, _, rfl⟩ := h
  rfl

theorem PassChange.array (h : PassChange s t) : t.array = s.array := by
  obtain ⟨_, _, _, _, _, _, _, _, _, _, rfl⟩ := h
  rfl

theorem PassChange.powerCycle (h : PassChange s t) : t.powerCycle = s.powerCycle := by
  obtain ⟨_, _, _, _, _, _, _, _, _, _, rfl⟩ := h
  rfl

theorem PassChange.pending (h : PassChange s t) : t.pending = s.pending := by
  obtain ⟨_, _, _, _, _, _, _, _, _, _, rfl⟩ := h
  rfl

end

/-! ### The request engine's operations -/

section

variable (s : State)

@[simp] theorem checkHead_port : (checkHead s).port = s.port := by
  rw [checkHead_frame]

@[simp] theorem checkHead_controller : (checkHead s).controller = s.controller := by
  rw [checkHead_frame]

@[simp] theorem checkHead_scheduler : (checkHead s).scheduler = s.scheduler := by
  rw [checkHead_frame]

@[simp] theorem checkHead_access : (checkHead s).requests.access = s.requests.access := by
  rw [checkHead_frame]

@[simp] theorem endAccess_port (data : List Byte) : (endAccess data s).port = s.port := by
  rw [endAccess_frame]

@[simp] theorem endAccess_scheduler (data : List Byte) : (endAccess data s).scheduler = s.scheduler := by
  rw [endAccess_frame]

/-- What a HOST ACCESS does on the array it does to the array alone (R8, R91). -/
theorem hostArrayEffect_eq (target : Row) (kind : RequestKind) (column : Nat) (bytes : List Byte) (decay : Decay) :
    hostArrayEffect target kind column bytes decay s =
      { s with array := (hostArrayEffect target kind column bytes decay s).array } := by
  cases kind <;> rfl

end

/-! ### The scheduler at a departure -/

/-- The scheduler of a state is another one's but for departures from the due queue (R70). -/
structure Sheds (s t : State) : Prop where
  frame : t.scheduler = { s.scheduler with
    due := t.scheduler.due, cursor := t.scheduler.cursor, forced := t.scheduler.forced }
  due : t.scheduler.due.Sublist s.scheduler.due
  cursor : t.scheduler.cursor = s.scheduler.cursor ∨
    t.scheduler.cursor = s.scheduler.cursor.map (fun c => { c with paused := false })
  law : forcedLaw s → forcedLaw t

section

variable {s t u : State}

/-- The law of FORCED is a property of the scheduler (R73). -/
theorem forcedLaw_congr (h : t.scheduler = s.scheduler) (law : forcedLaw s) : forcedLaw t := by
  unfold forcedLaw forcedMayClear isUrgent at *
  rw [h]
  exact law

theorem Sheds.of_scheduler_eq (h : t.scheduler = s.scheduler) : Sheds s t :=
  ⟨by rw [h], by rw [h], .inl (by rw [h]), forcedLaw_congr h⟩

theorem Departure.sheds (h : Departure s t) : Sheds s t :=
  ⟨by conv_lhs => rw [h.frame], h.due, h.cursor, h.law⟩

theorem Sheds.trans (first : Sheds s t) (second : Sheds t u) : Sheds s u where
  frame := by
    have frame := second.frame
    rw [first.frame] at frame
    exact frame
  due := second.due.trans first.due
  cursor := by
    obtain h1 | h1 := first.cursor <;> obtain h2 | h2 := second.cursor <;> rw [h2, h1]
    · exact .inl rfl
    · exact .inr rfl
    · exact .inr rfl
    · exact .inr (by rw [Option.map_map]; rfl)
  law h := second.law (first.law h)

/-- A departure after a change of other blocks. -/
theorem Sheds.after (h : Sheds t u) (same : t.scheduler = s.scheduler) : Sheds s u :=
  (Sheds.of_scheduler_eq same).trans h

theorem ProbeChange.sheds (h : ProbeChange s t) : Sheds s t := .of_scheduler_eq h.scheduler

end

section

variable (s : State)

theorem retireRecord_sheds (r : Row) (i : ReservedIndex) : Sheds s (retireRecord r i s) :=
  (departIfQueued_departure r).sheds.trans (.of_scheduler_eq rfl)

theorem parkDone_sheds (k : ContextId) : Sheds s (parkDone k s) := by
  unfold parkDone
  dsimp only
  split
  · exact (departIfQueued_departure _).sheds.trans (.of_scheduler_eq rfl)
  all_goals exact .of_scheduler_eq rfl

@[simp] theorem applyOutcome_scheduler (c : ProbeContext) : (applyOutcome c s).scheduler = s.scheduler := by
  unfold applyOutcome
  split <;> rfl

@[simp] theorem reinstate_scheduler (c : ProbeContext) : (reinstate c s).scheduler = s.scheduler := by
  unfold reinstate
  split <;> rfl

@[simp] theorem restoreDone_scheduler (k : ContextId) : (restoreDone k s).scheduler = s.scheduler := by
  unfold restoreDone
  dsimp only
  split
  · split
    · rw [(enterDone_probeChange _ _ _).scheduler, applyOutcome_scheduler]
    · exact reinstate_scheduler s _
    · rw [(enterDone_probeChange _ _ _).scheduler, reinstate_scheduler]
    · rw [(enterDone_probeChange _ _ _).scheduler, reinstate_scheduler]
  all_goals rfl

@[simp] theorem testUnwind_scheduler : (testUnwind s).scheduler = s.scheduler := by
  obtain ⟨-, h⟩ | ⟨-, h⟩ := testUnwind_cases s <;> rw [h]
  rfl

theorem changeRedirect_sheds (i : ReservedIndex) (state : RedirectState) (owner : Owner) :
    Sheds s (changeRedirect i state owner s) :=
  (changeRedirect_probeChange s i state owner).sheds

theorem jobDone_sheds (j : CopyJob) : Sheds s (jobDone j s) := by
  unfold jobDone
  split
  · refine (changeRedirect_sheds s j.index .parkHeld j.owner).trans ?_
    cases j.owner with
    | context k => exact parkDone_sheds _ k
    | command => exact .of_scheduler_eq rfl
  · refine .of_scheduler_eq ?_
    cases j.owner with
    | context k => exact (testUnwind_scheduler _).trans (restoreDone_scheduler _ k)
    | command => exact testUnwind_scheduler _
  · have retired : Sheds s (retireRecord j.home j.index (changeRedirect j.index .spareActive .command s)) :=
      (changeRedirect_sheds s _ _ _).trans (retireRecord_sheds _ _ _)
    exact retired.trans (.of_scheduler_eq rfl)

theorem copyBurstResult_sheds : Sheds s (copyBurstResult s) := by
  unfold copyBurstResult
  split
  · exact .of_scheduler_eq rfl
  · dsimp only
    split_ifs
    · exact .of_scheduler_eq rfl
    · unfold advanceJob
      split
      · exact .of_scheduler_eq rfl
      · split_ifs
        · exact .of_scheduler_eq rfl
        · exact (jobDone_sheds _ _).after rfl

/-- The conversion of a park does to the row what a finished RETIRE job does, and ends the context (R109, R145). -/
theorem convert_eq (k : ContextId) (outcome : PendingOutcome) : convert k outcome s =
    enterDone k outcome (retireRecord (contextOf s k).target (contextOf s k).parkIndex
      (changeRedirect (contextOf s k).parkIndex .spareActive .command s)) := rfl

theorem convert_sheds (k : ContextId) (outcome : PendingOutcome) : Sheds s (convert k outcome s) := by
  rw [convert_eq]
  exact ((changeRedirect_sheds s _ _ _).trans (retireRecord_sheds _ _ _)).trans (enterDone_probeChange _ _ _).sheds

theorem finishProbe_sheds (k : ContextId) : Sheds s (finishProbe k s) := by
  unfold finishProbe
  dsimp only
  split_ifs
  · exact (convert_sheds _ _ _).after rfl
  · exact (beginRestore_probeChange _ _).sheds.after rfl

theorem endTrial_sheds (k : ContextId) : Sheds s (endTrial k s) := by
  unfold endTrial
  dsimp only
  split_ifs
  · exact .of_scheduler_eq rfl
  · exact .of_scheduler_eq rfl
  · exact (finishProbe_sheds _ _).after rfl
  · exact (finishProbe_sheds _ _).after rfl

theorem checkBurstResult_sheds (k : ContextId) (differing : List Nat) : Sheds s (checkBurstResult k differing s) := by
  unfold checkBurstResult
  split
  · dsimp only
    split_ifs
    · exact .of_scheduler_eq rfl
    · exact (endTrial_sheds _ _).after rfl
  all_goals exact .of_scheduler_eq rfl

theorem writeRecord_sheds (o : RecordOperand) (status : RecordStatus) : Sheds s (writeRecord o status s) := by
  unfold writeRecord
  split_ifs
  · have retired := retireRecord_sheds (setRedirect o.spare { home := o.row, state := .spareActive, owner := .command } s)
      o.row o.spare
    have shown : Sheds s (retireRecord o.row o.spare
        (setRedirect o.spare { home := o.row, state := .spareActive, owner := .command } s)) := retired.after rfl
    exact shown.trans (.of_scheduler_eq rfl)
  · exact .of_scheduler_eq rfl

end

/-! ### The soft reset -/

/-- The state of a soft reset before its aborts: RESETTING, the request engine's queues, the log and its wait order emptied
(R168). -/
def softResetStart (s : State) : State :=
  { s with
    controller := some .resetting, requests := softResetRequests s.requests
    probes := { s.probes with log := [], waiting := [] } }

/-- The state of a soft reset after the retire outstanding and the probes have been given up (R115, R138). -/
def softResetAborts (s : State) : State :=
  abortAll .reset (abandonRetire (softResetStart s))

theorem softResetEffects_eq (s : State) : softResetEffects s =
    testUnwind { softResetAborts s with host := clearHost (softResetAborts s).host } := rfl

theorem abandonRetire_jobChange (s : State) : JobChange s (abandonRetire s) :=
  (abandonJob_probeChange s isRetire).job.trans ⟨_, _, _, _, _, _, _, _, _, _, none, _, _, _, rfl⟩

theorem softResetAborts_jobChange (s : State) : JobChange (softResetStart s) (softResetAborts s) :=
  (abandonRetire_jobChange _).trans (abortAll_probeChange _ _).job

@[simp] theorem softResetAborts_scheduler (s : State) : (softResetAborts s).scheduler = s.scheduler := by
  rw [softResetAborts, (abortAll_probeChange _ _).scheduler]
  exact (abandonJob_probeChange _ _).scheduler

@[simp] theorem softResetEffects_scheduler (s : State) : (softResetEffects s).scheduler = s.scheduler := by
  rw [softResetEffects_eq, testUnwind_scheduler]
  exact softResetAborts_scheduler s

@[simp] theorem softResetEffects_port (s : State) : (softResetEffects s).port = s.port := by
  rw [softResetEffects_eq, (testUnwind_jobChange _).port]
  exact (softResetAborts_jobChange s).port

@[simp] theorem softResetEffects_requests (s : State) :
    (softResetEffects s).requests = softResetRequests s.requests := by
  rw [softResetEffects_eq, (testUnwind_jobChange _).requests]
  exact (softResetAborts_jobChange s).requests

@[simp] theorem softResetEffects_supervisor (s : State) : (softResetEffects s).supervisor = s.supervisor := by
  rw [softResetEffects_eq, (testUnwind_jobChange _).supervisor]
  exact (softResetAborts_jobChange s).supervisor

@[simp] theorem softResetEffects_config (s : State) : (softResetEffects s).config = s.config := by
  rw [softResetEffects_eq, (testUnwind_jobChange _).config]
  exact (softResetAborts_jobChange s).config

@[simp] theorem softResetEffects_deviceCount (s : State) : (softResetEffects s).deviceCount = s.deviceCount := by
  rw [softResetEffects_eq, (testUnwind_jobChange _).deviceCount]
  exact (softResetAborts_jobChange s).deviceCount

@[simp] theorem softResetEffects_array (s : State) : (softResetEffects s).array = s.array := by
  rw [softResetEffects_eq, (testUnwind_jobChange _).array]
  exact (softResetAborts_jobChange s).array

@[simp] theorem softResetEffects_powerCycle (s : State) : (softResetEffects s).powerCycle = s.powerCycle := by
  rw [softResetEffects_eq, (testUnwind_jobChange _).powerCycle]
  exact (softResetAborts_jobChange s).powerCycle

@[simp] theorem softResetEffects_pending (s : State) : (softResetEffects s).pending = s.pending := by
  rw [softResetEffects_eq, (testUnwind_jobChange _).pending]
  exact (softResetAborts_jobChange s).pending

/-! ### The visit and the commands -/

section

variable (s : State)

/-- What a pass may change it may change beside any records. -/
theorem PassChange.withRecords {s t : State} (h : PassChange s t) (records : List (Nat × Record)) :
    PassChange { s with records := records } { t with records := records } := by
  obtain ⟨a, b, c, d, e, f, g, h, i, j, rfl⟩ := h
  exact ⟨a, b, c, d, e, f, g, h, i, j, rfl⟩

/-- A visit changes records besides what a pass may change (R63 to R68). -/
theorem visitRow_passChange (c : ScanCursor) : ∃ records, PassChange { s with records := records } (visitRow c s) := by
  have demotion : ∀ row, ∃ records, PassChange { s with records := records } (ageDemotion row s) := fun row => by
    obtain ⟨-, -, h⟩ | ⟨-, h⟩ := ageDemotion_cases s row <;> rw [h]
    · exact ⟨_, (raiseEvent_probeChange _ _).pass⟩
    · exact ⟨_, (ProbeChange.refl s).pass⟩
  obtain ⟨records, aged⟩ := demotion { device := c.device, number := c.row }
  unfold visitRow
  dsimp only
  generalize ageDemotion { device := c.device, number := c.row } s = t at aged ⊢
  split_ifs
  · exact ⟨records, aged.trans (scheduler_passChange t _)⟩
  · have appended : PassChange { t with records := (appendDue { device := c.device, number := c.row } c.serial t).records }
        (appendDue { device := c.device, number := c.row } c.serial t) := scheduler_passChange _ _
    exact ⟨_, (aged.withRecords _).trans (appended.trans (advanceScan_passChange _ c))⟩
  · exact ⟨records, aged.trans (advanceScan_passChange t c)⟩

end

end Sys2Proof.Machine
end

section
/-! PROOFS. The port: it is never left free while a claim may be granted (R25), the engines are busy while their operations are on
it (R20, R74, R90, R106), and the open-row timers follow the open rows (R14, R15). -/

namespace Sys2Proof.Machine

open Sys2Proof

variable {s t u : State}

/-! ### Never idle -/

/-- The arbiter chooses none just where no claim that waits may be granted (R27). -/
theorem chooseClaim_eq_none_iff :
    chooseClaim s = none ↔ ∀ claim : Claim, claim.grantable s = true → claimRaised s claim = false := by
  simp [chooseClaim, List.find?_eq_none]

/-- After the arbiter's choice the port is not left free (R25). -/
theorem neverIdle_arbitrate : neverIdle (arbitrate s) := by
  obtain ⟨eq, idle⟩ | ⟨claim, op, -, -, granted, eq⟩ := arbitrate_grants (s := s) <;> rw [eq]
  · exact idle
  · intro free
    rw [grantClaim_operation granted] at free
    cases free

/-- A change that neither frees the port, ends FORCED nor raises a claim leaves no claim waiting at a free port. -/
theorem neverIdle_of_no_new_claim (operation : t.port.operation = none → s.port.operation = none)
    (forced : t.scheduler.forced = s.scheduler.forced)
    (raised : ∀ claim, claimRaised t claim = true → claimRaised s claim = true) (law : neverIdle s) : neverIdle t := by
  intro free
  have none := chooseClaim_eq_none_iff.mp (law (operation free))
  refine chooseClaim_eq_none_iff.mpr fun claim may => ?_
  have may : claim.grantable s = true := by
    cases claim <;> simp only [Claim.grantable, forced] at may ⊢ <;> exact may
  by_contra h
  have := none claim may
  simp_all

/-- The head's condition is a function of the request engine's queues and access, the device count and the redirect table. -/
theorem headCondition_congr (queue : t.requests.requests.head? = s.requests.requests.head?)
    (access : t.requests.access = s.requests.access) (completions : t.requests.completions = s.requests.completions)
    (devices : t.deviceCount = s.deviceCount) (redirects : t.redirects = s.redirects) :
    headCondition t = headCondition s := by
  have live : liveAccess t = liveAccess s := by rw [liveAccess, access]; rfl
  have room : completionRoom t = completionRoom s := by rw [completionRoom, completions]; rfl
  have found : ∀ r, lookup t r = lookup s r := fun r => by rw [lookup, redirectOf, redirects]; rfl
  unfold headCondition
  rw [live, room, devices]
  cases ht : t.requests.requests <;> cases hs : s.requests.requests <;> simp_all

/-- A timer's tick moves neither the open row nor the close claim. -/
theorem deviceState_tickTimers (d : DeviceId) :
    deviceState (tickTimers s) d = { deviceState s d with timer := (deviceState s d).timer.tick } := by
  fin_cases d <;> rfl

theorem contextOf_tickTimers (k : ContextId) :
    contextOf (tickTimers s) k = { contextOf s k with stretchTimer := (contextOf s k).stretchTimer.tick } := by
  fin_cases k <;> rfl

/-- An entry of the wait order that is served frees its context and no other (R147). -/
theorem contextOf_serveWaiting (k : ContextId) :
    contextOf (serveWaiting s) k = contextOf s k ∨ contextOf (serveWaiting s) k = { contextOf s k with state := .idle } := by
  unfold serveWaiting
  split
  · exact .inl rfl
  · split
    · rename_i m rest _ _
      rw [appendLog_eq]
      by_cases h : k = m
      · subst h
        exact .inr (Quad.get_set_same _ _ _)
      · exact .inl (by simp [contextOf, Quad.get_set, h])
    · exact .inl rfl

theorem claimRaised_congr_of_parts (controller : t.controller = s.controller) (devices : t.deviceCount = s.deviceCount)
    (port : t.port = s.port) (scheduler : t.scheduler.due = s.scheduler.due ∧
      t.scheduler.refreshing = s.scheduler.refreshing ∧ t.scheduler.serial = s.scheduler.serial)
    (queue : t.requests.requests.head? = s.requests.requests.head?)
    (access : t.requests.access = s.requests.access) (completions : t.requests.completions = s.requests.completions)
    (redirects : t.redirects = s.redirects) (copy : t.copy = s.copy)
    (contexts : ∀ k, (contextOf t k = contextOf s k) ∨ contextOf t k = { contextOf s k with state := .idle })
    (claim : Claim) (raised : claimRaised t claim = true) : claimRaised s claim = true := by
  obtain ⟨due, refreshing, serial⟩ := scheduler
  unfold claimRaised at *
  rw [Bool.and_eq_true] at *
  rw [controller] at raised
  refine ⟨raised.1, ?_⟩
  replace raised := raised.2
  cases claim with
  | close d => simpa only [Claim.condition, closeRaised, deviceState, port] using raised
  | refresh urgent =>
    simpa only [Claim.condition, refreshRaised, headUrgent, isUrgent, due, refreshing, serial] using raised
  | request =>
    simpa only [Claim.condition, requestRaised, access, headCondition_congr queue access completions devices redirects]
      using raised
  | copy => simpa only [Claim.condition, copyRaised, copy] using raised
  | probe k =>
    simp only [Claim.condition, probeRaised, burstInProgress, port] at raised ⊢
    obtain h | h := contexts k <;> rw [h] at raised
    · exact raised
    · simp at raised
  | init => simpa only [Claim.condition, initRaised, initCycleInProgress, port, devices] using raised

/-- With RSTIN# low, or in POWERUP, no claim arises (R33, R34). -/
theorem neverIdle_of_not_serving (h : t.controller = none ∨ t.controller = some .powerup) : neverIdle t := fun _ => by
  refine chooseClaim_eq_none_iff.mpr fun claim _ => ?_
  obtain h | h := h <;> simp only [claimRaised, Claim.arises, h, Bool.false_and]

theorem serveWaiting_change : ProbeChange s (serveWaiting s) ∧ (serveWaiting s).redirects = s.redirects ∧
    (serveWaiting s).copy = s.copy := by
  refine ⟨serveWaiting_probeChange s, ?_⟩
  unfold serveWaiting
  split
  · exact ⟨rfl, rfl⟩
  · split <;> exact ⟨rfl, rfl⟩

/-- What no arbiter's choice follows raises no claim at a free port. -/
theorem neverIdle_unarbitrated (law : neverIdle s) (change : Unarbitrated s t) : neverIdle t := by
  have same : ∀ u : State, u.port.operation = s.port.operation → u.scheduler.forced = s.scheduler.forced →
      (∀ claim, claimRaised u claim = true → claimRaised s claim = true) → neverIdle u := fun u op forced raised =>
    neverIdle_of_no_new_claim (fun free => op ▸ free) forced raised law
  cases change with
  | nothing => exact law
  | time =>
    refine same _ rfl rfl fun claim => ?_
    have device := fun d => deviceState_tickTimers (s := s) d
    have context := fun k => contextOf_tickTimers (s := s) k
    cases claim with
    | close d => simp only [claimRaised, Claim.condition, closeRaised, device]; exact id
    | probe k => simp only [claimRaised, Claim.condition, probeRaised, context]; exact id
    | refresh urgent => exact id
    | request => exact id
    | copy => exact id
    | init => exact id
  | asserted => exact neverIdle_of_not_serving (.inl rfl)
  | released straps => exact neverIdle_of_not_serving (.inr rfl)
  | logWait =>
    obtain ⟨⟨_, _, _, _, _, _, _, _, eq⟩, redirects, copy⟩ := serveWaiting_change (s := s)
    have contexts := contextOf_serveWaiting (s := s)
    generalize serveWaiting s = u at eq redirects copy contexts ⊢
    exact same u (by rw [eq]) (by rw [eq]) (claimRaised_congr_of_parts (by rw [eq]) (by rw [eq]) (by rw [eq])
      (by rw [eq]; exact ⟨rfl, rfl, rfl⟩) (by rw [eq]) (by rw [eq]) (by rw [eq]) redirects copy contexts)
  | held full => exact same _ rfl rfl fun _ => id
  | discarded => exact same _ rfl rfl fun _ => id
  | window host requests interrupt queue access completions staging =>
    exact same _ rfl rfl (claimRaised_congr_of_parts (s := s)
      (t := { s with host := host, requests := requests }) rfl rfl rfl ⟨rfl, rfl, rfl⟩ (congrArg List.head? queue)
      access completions rfl rfl (fun _ => .inl rfl))
  | posted q ready room behind =>
    refine same _ rfl rfl (claimRaised_congr_of_parts (s := s) (t := acceptPost q s) rfl rfl rfl ⟨rfl, rfl, rfl⟩ ?_
      rfl rfl rfl rfl (fun _ => .inl rfl))
    obtain ⟨a, l, eq⟩ := List.exists_cons_of_ne_nil behind
    simp [acceptPost, eq]
  | configured config mode legal => exact same _ rfl rfl fun _ => id

/-- Settles O10: what no arbiter's choice follows raises no claim, and the choice itself leaves none waiting at a free port. -/
theorem stepNeverLeavesPortIdle : Obligations.StepNeverLeavesPortIdle := by
  intro s t law h
  obtain ⟨rest, change | ⟨-, u, -, rfl⟩⟩ := step_answers h
  · exact neverIdle_unarbitrated (s := { s with pending := rest }) law change
  · exact neverIdle_arbitrate

/-! ### The engines -/

/-- The law of the engines is a property of the operation on the port, of whether the refresh engine refreshes, of whether there
is an access record, and of whether the copy engine copies. -/
theorem enginesLaw_congr (operation : t.port.operation = s.port.operation)
    (refreshing : t.scheduler.refreshing = s.scheduler.refreshing)
    (access : t.requests.access.isSome = s.requests.access.isSome)
    (engine : t.copy.engine = .idle ↔ s.copy.engine = .idle) (law : enginesLaw s) : enginesLaw t := by
  unfold enginesLaw at *
  rw [operation, refreshing, access, Ne, engine]
  exact law

/-- A free port and idle engines. -/
theorem enginesLaw_of_free (operation : t.port.operation = none) (refreshing : t.scheduler.refreshing = false)
    (access : t.requests.access = none) (engine : t.copy.engine = .idle) : enginesLaw t := by
  simp [enginesLaw, operation, refreshing, access, engine]

/-- At a free port the engines are idle. -/
theorem idle_engines (law : enginesLaw s) (operation : s.port.operation = none) :
    s.scheduler.refreshing = false ∧ s.requests.access = none ∧ s.copy.engine = .idle := by
  simpa [enginesLaw, operation] using law

/-- A grant makes the engine of its operation busy and no other. -/
theorem enginesLaw_arbitrate (law : enginesLaw s) : enginesLaw (arbitrate s) := by
  obtain ⟨eq, -⟩ | ⟨claim, op, free, -, granted, eq⟩ := arbitrate_grants (s := s) <;> rw [eq]
  · exact law
  · obtain ⟨refreshing, access, engine⟩ := idle_engines law free
    unfold enginesLaw
    rw [grantClaim_operation granted, grantClaim_refreshing granted, grantClaim_requests granted,
      grantClaim_copy granted]
    cases claim with
    | close d =>
      cases granted
      simp [claimantEffects, refreshing, access, engine, PortOperation.isRefresh, PortOperation.isAccess,
        PortOperation.isCopy]
    | refresh urgent =>
      obtain ⟨e, rest, head, rfl⟩ := refresh_descriptor granted
      rw [claimantEffects, takeRefreshHead_eq head]
      rw [(departDue_departure _).frame]
      simp [access, engine, PortOperation.isRefresh, PortOperation.isAccess, PortOperation.isCopy]
    | request =>
      obtain ⟨q, rest, head, rfl⟩ := request_descriptor granted
      simp [claimantEffects, fillAccessRecord_eq head, hostDescriptor, refreshing, engine, PortOperation.isRefresh,
        PortOperation.isAccess, PortOperation.isCopy]
    | copy =>
      obtain ⟨j, rest, head, rfl⟩ := copy_descriptor granted
      simp [claimantEffects, refreshing, access, PortOperation.isRefresh, PortOperation.isAccess, PortOperation.isCopy]
    | probe k =>
      obtain ⟨row, burst, bytes, rfl | rfl⟩ := probe_descriptor granted
      · simp [claimantEffects, refreshing, access, engine, PortOperation.isRefresh, PortOperation.isAccess,
          PortOperation.isCopy]
      · simp [claimantEffects, refreshing, access, engine, PortOperation.isRefresh, PortOperation.isAccess,
          PortOperation.isCopy]
    | init =>
      cases granted
      simp [claimantEffects, refreshing, access, engine, PortOperation.isRefresh, PortOperation.isAccess,
        PortOperation.isCopy]

/-! #### The copy engine's state -/

/-- The copy engine of a state is idle just where another one's is. -/
def SameIdle (s t : State) : Prop := t.copy.engine = .idle ↔ s.copy.engine = .idle

theorem SameIdle.of_eq (h : t.copy.engine = s.copy.engine) : SameIdle s t := by rw [SameIdle, h]

theorem SameIdle.trans (first : SameIdle s t) (second : SameIdle t u) : SameIdle s u := Iff.trans second first

@[simp] theorem enterDone_copy (k : ContextId) (outcome : PendingOutcome) : (enterDone k outcome s).copy = s.copy := by
  obtain ⟨-, h⟩ | ⟨-, h⟩ := enterDone_cases s k outcome <;> rw [h]
  · rfl

@[simp] theorem departIfQueued_copy (r : Row) : (departIfQueued r s).copy = s.copy := by
  rw [(departIfQueued_departure r).frame]

@[simp] theorem retireRecord_copy (r : Row) (i : ReservedIndex) : (retireRecord r i s).copy = s.copy :=
  departIfQueued_copy r

@[simp] theorem changeRedirect_copy (i : ReservedIndex) (state : RedirectState) (owner : Owner) :
    (changeRedirect i state owner s).copy = s.copy := by
  rw [changeRedirect_eq]

@[simp] theorem testUnwind_copy : (testUnwind s).copy = s.copy := by
  obtain ⟨-, h⟩ | ⟨-, h⟩ := testUnwind_cases s <;> rw [h]
  rfl

@[simp] theorem applyOutcome_copy (c : ProbeContext) : (applyOutcome c s).copy = s.copy := by
  unfold applyOutcome
  split <;> rfl

@[simp] theorem reinstate_copy (c : ProbeContext) : (reinstate c s).copy = s.copy := by
  unfold reinstate
  split <;> rfl

@[simp] theorem restoreDone_copy (k : ContextId) : (restoreDone k s).copy = s.copy := by
  unfold restoreDone
  dsimp only
  split
  · split
    · rw [enterDone_copy, applyOutcome_copy]
    · exact reinstate_copy _
    · rw [enterDone_copy, reinstate_copy]
    · rw [enterDone_copy, reinstate_copy]
  all_goals rfl

@[simp] theorem parkDone_copy (k : ContextId) : (parkDone k s).copy = s.copy := by
  unfold parkDone
  dsimp only
  split
  · exact departIfQueued_copy _
  all_goals rfl

@[simp] theorem convert_copy (k : ContextId) (outcome : PendingOutcome) : (convert k outcome s).copy = s.copy := by
  rw [convert_eq, enterDone_copy, retireRecord_copy, changeRedirect_copy]

theorem abandonJob_sameIdle (isJob : CopyJob → Bool) : SameIdle s (abandonJob isJob s) := by
  obtain ⟨-, h⟩ | ⟨_, engine, -, h, idle, copying⟩ := abandonJob_cases s isJob <;> rw [h]
  · exact .of_eq rfl
  · cases old : s.copy.engine with
    | idle => simp [SameIdle, idle old, old]
    | copying b => simp [SameIdle, copying b old, old]

theorem beginRestore_engine (k : ContextId) : (beginRestore k s).copy.engine = s.copy.engine := by
  rw [beginRestore_eq]

theorem abortContext_sameIdle (reason : AbortReason) (k : ContextId) : SameIdle s (abortContext reason k s) := by
  unfold abortContext
  split
  · refine (abandonJob_sameIdle (isParkOf k)).trans (.of_eq ?_)
    unfold abortParking
    cases reason with
    | reset => rfl
    | host => exact congrArg CopyEngine.engine (enterDone_copy _ _)
    | thermal => exact congrArg CopyEngine.engine (enterDone_copy _ _)
  · exact .of_eq (beginRestore_engine _)
  · exact .of_eq (beginRestore_engine _)
  · exact .of_eq (beginRestore_engine _)
  · split_ifs <;> exact .of_eq rfl
  · split_ifs <;> exact .of_eq rfl
  · exact .of_eq rfl

theorem abortAll_sameIdle (reason : AbortReason) : SameIdle s (abortAll reason s) := by
  unfold abortAll
  generalize allContexts = l
  induction l generalizing s with
  | nil => exact .of_eq rfl
  | cons k rest ih => exact (abortContext_sameIdle reason k).trans ih

theorem jobDone_engine (j : CopyJob) : (jobDone j s).copy.engine = s.copy.engine := by
  unfold jobDone
  split
  · cases j.owner with
    | context k => rw [tellOwner, parkDone_copy, changeRedirect_copy]
    | command => rw [tellOwner, changeRedirect_copy]
  · cases j.owner with
    | context k => rw [testUnwind_copy, tellOwner, restoreDone_copy, removeRedirect_copy]
    | command => rw [testUnwind_copy, tellOwner, removeRedirect_copy]
  · have retired : (retireRecord j.home j.index (changeRedirect j.index .spareActive .command s)).copy = s.copy := by
      rw [retireRecord_copy, changeRedirect_copy]
    show (retireRecord j.home j.index (changeRedirect j.index .spareActive .command s)).copy.engine = _
    rw [retired]

/-- The end of a copy burst leaves the copy engine idle (R106). -/
theorem copyBurstResult_engine : (copyBurstResult s).copy.engine = .idle := by
  unfold copyBurstResult
  split
  · assumption
  · dsimp only
    split_ifs
    · rfl
    · unfold advanceJob
      split
      · rfl
      · split_ifs
        · rfl
        · rw [jobDone_engine]

theorem finishProbe_engine (k : ContextId) : (finishProbe k s).copy.engine = s.copy.engine := by
  unfold finishProbe
  dsimp only
  split_ifs
  · rw [convert_copy]
    rfl
  · exact beginRestore_engine k

theorem checkBurstResult_engine (k : ContextId) (differing : List Nat) :
    (checkBurstResult k differing s).copy.engine = s.copy.engine := by
  have ended : ∀ t : State, (endTrial k t).copy.engine = t.copy.engine := fun t => by
    unfold endTrial
    dsimp only
    split_ifs
    · rfl
    · rfl
    · exact finishProbe_engine k
    · exact finishProbe_engine k
  unfold checkBurstResult
  split
  · dsimp only
    split_ifs
    · rfl
    · exact ended _
  all_goals rfl

theorem patternBurstResult_copy (k : ContextId) : (patternBurstResult k s).copy = s.copy := by
  unfold patternBurstResult
  dsimp only
  split
  · split_ifs <;> rfl
  all_goals rfl

/-! #### Readings, passes and scans -/

/-- Of the scheduler, and of the copy engine's idleness, what a reading or a sensor timeout keeps: all of it. -/
def KeepsScheduler (s t : State) : Prop := t.scheduler = s.scheduler ∧ SameIdle s t

theorem KeepsScheduler.refl : KeepsScheduler s s := ⟨rfl, .of_eq rfl⟩

theorem KeepsScheduler.trans (first : KeepsScheduler s t) (second : KeepsScheduler t u) : KeepsScheduler s u :=
  ⟨second.1.trans first.1, first.2.trans second.2⟩

theorem enterThermal_keepsScheduler (new : ThermalState) : KeepsScheduler s (enterThermal new s) := by
  obtain ⟨-, h⟩ | ⟨-, -, h⟩ | ⟨-, -, h⟩ := enterThermal_cases s new <;> rw [h]
  · exact .refl
  · exact ⟨rfl, .of_eq rfl⟩
  · have change : KeepsScheduler s
        (raiseEvent .thermalChange { s with supervisor := { s.supervisor with thermal := new } }) := .refl
    exact change.trans ⟨(abortAll_probeChange _ _).scheduler, abortAll_sameIdle _⟩

theorem readingArrives_keepsScheduler (reading : Int) : KeepsScheduler s (readingArrives reading s) := by
  unfold readingArrives
  dsimp only
  generalize (if s.supervisor.window.length < Config.windowReadings then s.supervisor.window
    else s.supervisor.window.drop 1) ++ [reading] = window
  split_ifs
  · exact .refl
  · exact enterThermal_keepsScheduler _

theorem testSensorTimeout_keepsScheduler : KeepsScheduler s (testSensorTimeout s) := by
  unfold testSensorTimeout sensorTimeout
  split_ifs
  · have heat := enterThermal_keepsScheduler
      (s := { s with supervisor := { s.supervisor with window := [], stale := 0 } }) .hot
    exact heat
  · exact .refl

theorem supervisorPassStart_keepsScheduler : KeepsScheduler s (supervisorPassStart s) := by
  unfold supervisorPassStart
  split
  · exact testSensorTimeout_keepsScheduler
  · split <;> exact .refl

end Sys2Proof.Machine
end

section
/-! PROOFS. The scheduler after an expiry, a visit and a scan's end; the laws of the engines and of the open rows. -/

namespace Sys2Proof.Machine

open Sys2Proof

variable {s t u : State}

/-! ### The scheduler after an expiry (R58, R59) -/

@[simp] theorem passStart_scheduler : (passStart s).scheduler = { s.scheduler with
    pass := (s.scheduler.pass + 1) % 65536
    epoch := if (s.scheduler.pass + 1) % 65536 % s.config.epochDivider = 0
      then (s.scheduler.epoch + 1) % 256 else s.scheduler.epoch
    tbase := s.config.tbaseWritten } :=
  supervisorPassStart_keepsScheduler.1

/-- A taken expiry before its last act: the serial advanced, the pass started at a slice index of 0. -/
def expiryPass (s : State) : State :=
  let advanced := { s with scheduler := { s.scheduler with serial := (s.scheduler.serial + 1) % 65536 } }
  if (s.scheduler.serial + 1) % 65536 % 16 = 0 then passStart advanced else advanced

/-- The overrun test of an expiry (R72). -/
def expiryOverruns (s : State) : Bool :=
  isOverrun ((s.scheduler.serial + 1) % 65536) s.scheduler.pendingSlices s.scheduler.due

/-- What the pass start of an expiry leaves in the scheduler. -/
theorem expiryPass_scheduler : (expiryPass s).scheduler = if (s.scheduler.serial + 1) % 65536 % 16 = 0
    then { s.scheduler with
      serial := (s.scheduler.serial + 1) % 65536, pass := (s.scheduler.pass + 1) % 65536
      epoch := if (s.scheduler.pass + 1) % 65536 % s.config.epochDivider = 0
        then (s.scheduler.epoch + 1) % 256 else s.scheduler.epoch
      tbase := s.config.tbaseWritten }
    else { s.scheduler with serial := (s.scheduler.serial + 1) % 65536 } := by
  unfold expiryPass
  dsimp only
  split_ifs <;> simp [*]

/-- Beside the pass quantities the pass start leaves the scheduler but for the serial. -/
theorem expiryPass_scheduler_eq : (expiryPass s).scheduler = { s.scheduler with
    serial := (s.scheduler.serial + 1) % 65536, pass := (expiryPass s).scheduler.pass
    epoch := (expiryPass s).scheduler.epoch, tbase := (expiryPass s).scheduler.tbase } := by
  rw [expiryPass_scheduler]
  split_ifs <;> rfl

theorem expiryPass_tbase : (expiryPass s).scheduler.tbase = s.scheduler.tbase ∨
    (expiryPass s).scheduler.tbase = s.config.tbaseWritten := by
  rw [expiryPass_scheduler]
  split_ifs
  · exact .inr rfl
  · exact .inr rfl
  · exact .inl rfl

/-- A taken expiry is a pass start where the slice index is 0, the overrun where there is one, the count and the cursor. -/
theorem takeExpiry_eq : takeExpiry s =
    let late := if expiryOverruns s then overrun (expiryPass s) else expiryPass s
    { late with
      scheduler := { late.scheduler with
        pendingSlices := s.scheduler.pendingSlices + 1
        cursor := if s.scheduler.pendingSlices = 0
          then some (sliceStart ((s.scheduler.serial + 1) % 65536) late.scheduler.pass) else late.scheduler.cursor } } := by
  have due : (expiryPass s).scheduler.due = s.scheduler.due := by rw [expiryPass_scheduler_eq]
  unfold expiryOverruns
  rw [← due]
  rfl

/-- What a taken expiry leaves in the scheduler: the pass quantities, FORCED and the cursor as the slice has it. -/
theorem takeExpiry_scheduler : (takeExpiry s).scheduler = { s.scheduler with
    serial := (s.scheduler.serial + 1) % 65536, pass := (expiryPass s).scheduler.pass
    epoch := (expiryPass s).scheduler.epoch, tbase := (expiryPass s).scheduler.tbase
    forced := expiryOverruns s || s.scheduler.forced
    pendingSlices := s.scheduler.pendingSlices + 1
    cursor := if s.scheduler.pendingSlices = 0
      then some (sliceStart ((s.scheduler.serial + 1) % 65536) (expiryPass s).scheduler.pass)
      else s.scheduler.cursor } := by
  rw [takeExpiry_eq]
  cases late : expiryOverruns s <;>
    simp only [Bool.false_eq_true, if_true, if_false, overrun_scheduler, Bool.true_or, Bool.false_or] <;>
    rw [expiryPass_scheduler_eq]

/-- Beside the scheduler and OVERRUN a taken expiry is its pass start. -/
theorem takeExpiry_eq_expiryPass : takeExpiry s =
    { expiryPass s with host := (takeExpiry s).host, scheduler := (takeExpiry s).scheduler } := by
  rw [takeExpiry_eq]
  cases late : expiryOverruns s <;> rfl

theorem expiryPass_sameIdle : SameIdle s (expiryPass s) := by
  have started : ∀ t : State, SameIdle t (passStart t) := fun t => supervisorPassStart_keepsScheduler.2
  unfold expiryPass
  dsimp only
  split
  · exact started { s with scheduler := { s.scheduler with serial := (s.scheduler.serial + 1) % 65536 } }
  · exact .of_eq rfl

theorem takeExpiry_sameIdle : SameIdle s (takeExpiry s) := by
  rw [takeExpiry_eq_expiryPass]
  exact expiryPass_sameIdle

theorem releaseHeld_cases :
    (s.scheduler.sliceTimer = .expired ∧ s.scheduler.pendingSlices < 15 ∧
      releaseHeld s = startSliceTimer (takeExpiry s)) ∨
    ((s.scheduler.sliceTimer = .expired → 15 ≤ s.scheduler.pendingSlices) ∧ releaseHeld s = s) := by
  unfold releaseHeld Config.pendingSlices
  split_ifs with h
  · exact .inl ⟨h.1, h.2, rfl⟩
  · exact .inr ⟨fun held => by by_contra lt; exact h ⟨held, by omega⟩, rfl⟩

theorem takeExpiry_refreshing : (takeExpiry s).scheduler.refreshing = s.scheduler.refreshing := by
  rw [takeExpiry_scheduler]

theorem releaseHeld_engines : (releaseHeld s).scheduler.refreshing = s.scheduler.refreshing ∧
    SameIdle s (releaseHeld s) := by
  obtain ⟨-, -, eq⟩ | ⟨-, eq⟩ := releaseHeld_cases (s := s) <;> rw [eq]
  · exact ⟨takeExpiry_refreshing, takeExpiry_sameIdle⟩
  · exact ⟨rfl, .of_eq rfl⟩

/-! ### The visit, with its branches named (R63 to R68) -/

/-- The row under the cursor. -/
def ScanCursor.visited (c : ScanCursor) : Row := { device := c.device, number := c.row }

/-- The age test of a visit changes the row's record and AGE_DEMOTE alone (R66). -/
theorem ageDemotion_eq (row : Row) : ∃ host records, ageDemotion row s = { s with host := host, records := records } := by
  obtain ⟨-, -, h⟩ | ⟨-, h⟩ := ageDemotion_cases s row <;> rw [h]
  · exact ⟨_, _, rfl⟩
  · exact ⟨_, _, rfl⟩

/-- All that a visit can do once the age test is made: append the row and move on, pause on a full queue, or move on. -/
theorem visitRow_cases (c : ScanCursor) :
    (isDue (ageDemotion c.visited s).supervisor.thermal c.pass c.visited (recordOf (ageDemotion c.visited s) c.visited) = true ∧
      (recordOf (ageDemotion c.visited s) c.visited).queued = false ∧ 512 ≤ s.scheduler.due.length ∧
      visitRow c s = { ageDemotion c.visited s with
        scheduler := { s.scheduler with cursor := some { c with paused := true } } }) ∨
    (isDue (ageDemotion c.visited s).supervisor.thermal c.pass c.visited (recordOf (ageDemotion c.visited s) c.visited) = true ∧
      (recordOf (ageDemotion c.visited s) c.visited).queued = false ∧ s.scheduler.due.length < 512 ∧
      visitRow c s = advanceScan c (appendDue c.visited c.serial (ageDemotion c.visited s))) ∨
    ((isDue (ageDemotion c.visited s).supervisor.thermal c.pass c.visited (recordOf (ageDemotion c.visited s) c.visited) &&
        !(recordOf (ageDemotion c.visited s) c.visited).queued) = false ∧
      visitRow c s = advanceScan c (ageDemotion c.visited s)) := by
  have same : (ageDemotion c.visited s).scheduler = s.scheduler := by
    obtain ⟨_, _, eq⟩ := ageDemotion_eq (s := s) c.visited
    rw [eq]
  unfold visitRow
  dsimp only
  change _ ∨ _ ∨ (_ ∧ (if (isDue (ageDemotion c.visited s).supervisor.thermal c.pass c.visited
    (recordOf (ageDemotion c.visited s) c.visited) && !(recordOf (ageDemotion c.visited s) c.visited).queued) = true then _
    else _) = _)
  by_cases due : (isDue (ageDemotion c.visited s).supervisor.thermal c.pass c.visited
    (recordOf (ageDemotion c.visited s) c.visited) && !(recordOf (ageDemotion c.visited s) c.visited).queued) = true
  · have parts : _ ∧ _ := Bool.and_eq_true_iff.mp due
    by_cases full : 512 ≤ s.scheduler.due.length
    · refine .inl ⟨parts.1, by simpa using parts.2, full, ?_⟩
      rw [← same] at full ⊢
      exact (if_pos due).trans (if_pos full)
    · refine .inr (.inl ⟨parts.1, by simpa using parts.2, by omega, ?_⟩)
      rw [← same] at full
      exact (if_pos due).trans (if_neg full)
  · exact .inr (.inr ⟨by simpa using due, if_neg due⟩)

/-- All that the move of the cursor can do: to the next row, to the next device, or to the end of the scan. -/
theorem advanceScan_cases (c : ScanCursor) :
    (c.row.val + 16 < 1024 ∧ advanceScan c s = { s with
      scheduler := { s.scheduler with
        cursor := some { c with row := Fin.ofNat 1024 (c.row.val + 16), paused := false } } }) ∨
    (1024 ≤ c.row.val + 16 ∧ c.device.val + 1 < s.deviceCount ∧ advanceScan c s = { s with
      scheduler := { s.scheduler with
        cursor := some { c with
          device := Fin.ofNat 4 (c.device.val + 1), row := Fin.ofNat 1024 (c.serial % 16), paused := false } } }) ∨
    (1024 ≤ c.row.val + 16 ∧ s.deviceCount ≤ c.device.val + 1 ∧ advanceScan c s = endScan c s) := by
  unfold advanceScan Config.slicesPerPass Config.rowsPerDevice
  split_ifs with row device
  · exact .inl ⟨row, rfl⟩
  · exact .inr (.inl ⟨by omega, device, rfl⟩)
  · exact .inr (.inr ⟨by omega, by omega, rfl⟩)

/-- The state of a scan's end before a HELD expiry is taken and FORCED is tested (R68). -/
def scanEnded (c : ScanCursor) (s : State) : State :=
  { s with
    scheduler := { s.scheduler with
      pendingSlices := s.scheduler.pendingSlices - 1
      cursor := if 0 < s.scheduler.pendingSlices - 1 then some (nextSlice c) else none } }

theorem endScan_eq (c : ScanCursor) : endScan c s = testForced (releaseHeld (scanEnded c s)) := rfl

theorem testForced_engines : (testForced s).scheduler.refreshing = s.scheduler.refreshing ∧
    SameIdle s (testForced s) := by
  rw [testForced_eq]
  exact ⟨rfl, .of_eq rfl⟩

theorem advanceScan_engines (c : ScanCursor) : (advanceScan c s).scheduler.refreshing = s.scheduler.refreshing ∧
    SameIdle s (advanceScan c s) := by
  obtain ⟨-, eq⟩ | ⟨-, -, eq⟩ | ⟨-, -, eq⟩ := advanceScan_cases (s := s) c <;> rw [eq]
  · exact ⟨rfl, .of_eq rfl⟩
  · exact ⟨rfl, .of_eq rfl⟩
  · rw [endScan_eq]
    have held := releaseHeld_engines (s := scanEnded c s)
    have forced := testForced_engines (s := releaseHeld (scanEnded c s))
    exact ⟨forced.1.trans held.1, held.2.trans forced.2⟩

theorem visitRow_engines (c : ScanCursor) : (visitRow c s).scheduler.refreshing = s.scheduler.refreshing ∧
    SameIdle s (visitRow c s) := by
  obtain ⟨_, _, aged⟩ := ageDemotion_eq (s := s) c.visited
  obtain ⟨-, -, -, eq⟩ | ⟨-, -, -, eq⟩ | ⟨-, eq⟩ := visitRow_cases (s := s) c <;> rw [eq, aged]
  · exact ⟨rfl, .of_eq rfl⟩
  · exact advanceScan_engines c
  · exact advanceScan_engines c

/-! ### The law of the engines -/

/-- The port, the refresh engine, the access and the copy engine's idleness are what the law of the engines is about. -/
def SameEngines (s t : State) : Prop :=
  t.port.operation = s.port.operation ∧ t.scheduler.refreshing = s.scheduler.refreshing ∧
    t.requests.access.isSome = s.requests.access.isSome ∧ SameIdle s t

theorem SameEngines.law (h : SameEngines s t) (law : enginesLaw s) : enginesLaw t :=
  enginesLaw_congr h.1 h.2.1 h.2.2.1 h.2.2.2 law

theorem PassChange.sameEngines (h : PassChange s t) (refreshing : t.scheduler.refreshing = s.scheduler.refreshing)
    (idle : SameIdle s t) : SameEngines s t :=
  ⟨by rw [h.port], refreshing, by rw [h.requests], idle⟩

/-- The refresh engine takes no part in a departure. -/
theorem Sheds.refreshing (h : Sheds s t) : t.scheduler.refreshing = s.scheduler.refreshing := by
  rw [h.frame]

/-- A RECORD WRITE does what a job's end may do, the copy engine left alone, and shows the record (R174). -/
theorem writeRecord_jobChange (o : RecordOperand) (status : RecordStatus) :
    ∃ t, JobChange s t ∧ t.copy = s.copy ∧ t.host = s.host ∧ writeRecord o status s = showRecord o.row t := by
  unfold writeRecord
  split_ifs
  · refine ⟨_, ?_, ?_, ?_, rfl⟩
    · have bound : JobChange s (setRedirect o.spare { home := o.row, state := .spareActive, owner := .command } s) :=
        ⟨_, _, _, _, _, _, _, _, _, _, _, _, _, _, rfl⟩
      exact bound.trans (retireRecord_jobChange _ _ _)
    · rw [retireRecord_copy, setRedirect_copy]
    · rw [retireRecord_host, setRedirect_host]
  · exact ⟨_, setRecord_jobChange _ _ _, rfl, rfl, rfl⟩

/-- What an accepted command does leaves the engines as they are. -/
theorem accepted_sameEngines (accepted : Accepted s t) : SameEngines s t := by
  cases accepted with
  | probeStart o mode pattern k i step free cool idle unused => exact ⟨rfl, rfl, rfl, .of_eq rfl⟩
  | probeAbort k running =>
    have change := (abortContext_probeChange s .host k).pass
    exact change.sameEngines (by rw [(abortContext_probeChange s .host k).scheduler]) (abortContext_sameIdle _ _)
  | retire home i free single unused => exact ⟨rfl, rfl, rfl, .of_eq rfl⟩
  | recordRead r => exact ⟨rfl, rfl, rfl, .of_eq rfl⟩
  | recordWrite o status margin writable ordinary free consistent unused =>
    obtain ⟨v, change, copy, -, eq⟩ := writeRecord_jobChange (s := s) o status
    have refreshing := (writeRecord_sheds s o status).refreshing
    rw [eq] at refreshing ⊢
    exact ⟨congrArg ArrayPort.operation change.port, refreshing,
      congrArg (fun e : RequestEngine => e.access.isSome) change.requests, .of_eq (congrArg CopyEngine.engine copy)⟩
  | logRead w => exact ⟨rfl, rfl, rfl, .of_eq rfl⟩
  | logPop e rest head =>
    have change := serveWaiting_probeChange { s with probes := { s.probes with log := rest } }
    exact (change.pass).sameEngines (by rw [change.scheduler]) (.of_eq (by rw [serveWaiting_change.2.2]))
  | tempSupply reading =>
    have kept := readingArrives_keepsScheduler (s := s) reading
    have change := readingArrives_passChange s reading
    exact ⟨by rw [change.port], by rw [kept.1], by rw [change.requests], kept.2⟩

/-- Settles O11: an operation's completion frees its engine with the port, its grant makes it busy with the port, and nothing else
moves an engine. -/
theorem stepKeepsEnginesLaw : Obligations.StepKeepsEnginesLaw := by
  intro s t law h
  refine step_keeps (premise := fun _ => True) (fun _ _ => id) (fun _ _ => id) ?_ ?_ (fun _ => enginesLaw_arbitrate)
    trivial law h
  · intro s t _ law change
    cases change with
    | nothing => exact law
    | time => exact law
    | asserted => exact enginesLaw_of_free rfl rfl rfl rfl
    | released straps => exact enginesLaw_of_free rfl rfl rfl rfl
    | logWait =>
      have change := serveWaiting_probeChange s
      exact (change.pass.sameEngines (by rw [change.scheduler]) (.of_eq (by rw [serveWaiting_change.2.2]))).law law
    | held full => exact law
    | discarded => exact law
    | window host requests interrupt queue access completions staging =>
      exact SameEngines.law (s := s) ⟨rfl, rfl, by rw [← access], .of_eq rfl⟩ law
    | posted q ready room behind => exact law
    | configured config mode legal => exact law
  · intro s u _ law run change
    cases change with
    | nothing => exact law
    | pauseExpired powerup => exact law
    | initCycle row op =>
      simp only [enginesLaw, op, PortOperation.isRefresh, PortOperation.isAccess, PortOperation.isCopy,
        Option.any_some] at law
      have access : s.requests.access = none := by simpa using law.2.1
      have engine : s.copy.engine = .idle := by simpa using law.2.2
      exact enginesLaw_of_free rfl law.1 access engine
    | initEnded row op =>
      simp only [enginesLaw, op, PortOperation.isRefresh, PortOperation.isAccess, PortOperation.isCopy,
        Option.any_some] at law
      have access : s.requests.access = none := by simpa using law.2.1
      have engine : s.copy.engine = .idle := by simpa using law.2.2
      exact enginesLaw_of_free rfl law.1 access engine
    | rowRefresh row op =>
      simp only [enginesLaw, op, PortOperation.isRefresh, PortOperation.isAccess, PortOperation.isCopy,
        Option.any_some] at law
      exact enginesLaw_of_free rfl rfl (by simpa using law.2.1) (by simpa using law.2.2)
    | rowClose d op =>
      simp only [enginesLaw, op, PortOperation.isRefresh, PortOperation.isAccess, PortOperation.isCopy,
        Option.any_some] at law
      exact enginesLaw_of_free rfl law.1 (by simpa using law.2.1) (by simpa using law.2.2)
    | hostAccess decay target kind column length bytes pageOpen hit op =>
      simp only [enginesLaw, op, PortOperation.isRefresh, PortOperation.isAccess, PortOperation.isCopy,
        Option.any_some] at law
      refine enginesLaw_of_free (by rw [endAccess_port]; rfl) ?_ (endAccess_access _ _) ?_
      · rw [endAccess_scheduler, hostArrayEffect_eq]
        exact law.1
      · rw [endAccess_frame, hostArrayEffect_eq]
        simpa using law.2.2
    | failedHead => exact SameEngines.law (s := s) ⟨by simp, by simp, by simp, .of_eq (by rw [checkHead_frame])⟩ law
    | popped c rest head =>
      exact SameEngines.law (s := s) ⟨by simp, by simp, by simp, .of_eq (by rw [checkHead_frame])⟩ law
    | posted q ready empty =>
      exact SameEngines.law (s := s) ⟨by simp, by simp, by simp [acceptPost], .of_eq (by rw [checkHead_frame]; rfl)⟩ law
    | copyBurst decay source target burst op =>
      simp only [enginesLaw, op, PortOperation.isRefresh, PortOperation.isAccess, PortOperation.isCopy,
        Option.any_some] at law
      have change := copyBurstResult_jobChange (closeDevice target.device (closeDevice source.device
        (freePort (copyArrayEffect source target burst decay s))))
      refine enginesLaw_of_free (by rw [change.port]; rfl) ?_ ?_ copyBurstResult_engine
      · rw [(copyBurstResult_sheds _).refreshing]
        exact law.1
      · rw [change.requests]
        show s.requests.access = none
        simpa using law.2.1
    | unwindEnd =>
      have change := testUnwind_jobChange s
      exact SameEngines.law (s := s) ⟨by rw [change.port], by simp, by rw [change.requests], .of_eq (by simp)⟩ law
    | patternBurst k row burst bytes op =>
      simp only [enginesLaw, op, PortOperation.isRefresh, PortOperation.isAccess, PortOperation.isCopy,
        Option.any_some] at law
      have change := (patternBurstResult_probeChange (closeDevice row.device
        (freePort (writeBytes row (Config.burstColumns * burst) bytes s))) k)
      refine enginesLaw_of_free (by rw [change.job.port]; rfl) ?_ ?_ ?_
      · rw [change.scheduler]
        exact law.1
      · rw [change.job.requests]
        simpa using law.2.1
      · rw [patternBurstResult_copy]
        simpa using law.2.2
    | checkBurst decay k row burst expected differing op =>
      simp only [enginesLaw, op, PortOperation.isRefresh, PortOperation.isAccess, PortOperation.isCopy,
        Option.any_some] at law
      have change := checkBurstResult_jobChange (closeDevice row.device (freePort (applyDecay row decay s))) k differing
      refine enginesLaw_of_free (by rw [change.port]; rfl) ?_ ?_ ?_
      · rw [(checkBurstResult_sheds _ _ _).refreshing]
        exact law.1
      · rw [change.requests]
        simpa using law.2.1
      · rw [checkBurstResult_engine]
        simpa using law.2.2
    | openRowExpired d runs => exact law
    | sliceExpired room =>
      exact ((takeExpiry_passChange s).sameEngines takeExpiry_refreshing takeExpiry_sameIdle).law law
    | sensorTimeout =>
      have kept := testSensorTimeout_keepsScheduler (s := s)
      exact ((testSensorTimeout_passChange s).sameEngines (by rw [kept.1]) kept.2).law law
    | heldExpiry =>
      exact ((releaseHeld_passChange s).sameEngines releaseHeld_engines.1 releaseHeld_engines.2).law law
    | visit c cursor =>
      obtain ⟨records, change⟩ := visitRow_passChange s c
      have engines := visitRow_engines (s := s) c
      exact SameEngines.law (s := s) ⟨by rw [change.port], engines.1, by rw [change.requests], engines.2⟩ law
    | forcedClear =>
      rw [testForced_eq]
      exact law
    | stretchExpired k stretch => exact law
    | conversion reading =>
      have kept := readingArrives_keepsScheduler
        (s := { s with supervisor := { s.supervisor with conversion := .idle } }) reading
      exact ((readingArrives_passChange _ reading).sameEngines (by rw [kept.1]) kept.2).law law
    | softReset ready =>
      refine SameEngines.law (s := s) ⟨by simp, by simp, by simp [softResetRequests], ?_⟩ law
      refine .trans (t := abandonRetire (softResetStart s)) ?_ ?_
      · exact abandonJob_sameIdle (s := softResetStart s) isRetire
      · rw [softResetEffects_eq]
        exact (abortAll_sameIdle .reset).trans (.of_eq (by rw [testUnwind_copy]; rfl))
    | sensorMode external config mode legal =>
      have kept := enterThermal_keepsScheduler (s := { s with
        config := { config with external := external }
        supervisor := { s.supervisor with
          window := [], stale := 0, conversion := markDiscard s.supervisor.conversion } }) .hot
      exact ((enterThermal_passChange _ .hot).sameEngines (by rw [kept.1]) kept.2).law law
    | command code t ready accepted => exact (accepted_sameEngines accepted).law law

end Sys2Proof.Machine
end

section
/-! PROOFS. The open rows (R14, R15): what each completion, grant and expiry leaves of a device's row, timer and claim. -/

namespace Sys2Proof.Machine

open Sys2Proof

variable {s t u : State}

/-- What the law of the open rows asks of one device: the close claim goes with EXPIRED, and the timer is stopped while an
operation addresses the device otherwise than by a hit, and otherwise follows the open row. -/
def deviceFits (addressed : Bool) (d : DeviceState) : Prop :=
  (d.closeClaim = true ↔ d.timer = .expired) ∧ (addressed = true → d.timer = .stopped) ∧
    (addressed = false → (d.timer ≠ .stopped ↔ d.openRow.isSome))

/-- A hit's target is the open row of its device. -/
def hitFits (s : State) : Prop :=
  ∀ target kind column length bytes pageOpen,
    s.port.operation = some (.hostAccess target kind column length bytes pageOpen true) →
    (deviceState s target.device).openRow = some target.number

theorem openRowLaw_iff : openRowLaw s ↔
    (running s = true → ∀ d, deviceFits (addressedByMiss s d) (deviceState s d)) ∧ hitFits s := Iff.rfl

/-- The law of the open rows is a property of the port, while RSTIN# is high. -/
theorem openRowLaw_of_port_eq (run : running s = true) (port : t.port = s.port) (law : openRowLaw s) : openRowLaw t := by
  unfold openRowLaw addressedByMiss deviceState at *
  rw [port]
  exact ⟨fun _ => law.1 run, law.2⟩

/-- A free port has no hit on it and addresses no device. -/
theorem openRowLaw_of_free (free : t.port.operation = none) (fits : ∀ d, deviceFits false (deviceState t d)) :
    openRowLaw t := by
  refine openRowLaw_iff.mpr ⟨fun _ d => ?_, fun _ _ _ _ _ _ op => by rw [free] at op; cases op⟩
  rw [addressedByMiss, free]
  exact fits d

/-- A closed device with a stopped timer and no claim fits in either case. -/
theorem deviceFits_stopped {addressed : Bool} {d : DeviceState} (claim : d.closeClaim = false) (timer : d.timer = .stopped)
    (row : d.openRow = none) : deviceFits addressed d := by
  simp [deviceFits, claim, timer, row]

/-- The completion of an operation that is no hit closes its devices, whose timers it had stopped (R13). -/
theorem deviceFits_closed {d : DeviceState} (fits : deviceFits true d) : deviceFits false { d with openRow := none } := by
  obtain ⟨claim, stopped, -⟩ := fits
  have timer := stopped rfl
  simp [deviceFits, claim, timer]

/-- At the grant of an operation that is no hit a device it addresses loses its timer and its claim (R26). -/
theorem deviceFits_granted (d : DeviceState) : deviceFits true { d with timer := .stopped, closeClaim := false } := by
  simp [deviceFits]

theorem addressedByMiss_of_operation {op : PortOperation} (h : s.port.operation = some op) (d : DeviceId) :
    addressedByMiss s d = (op.devices.contains d && !op.isHit) := by
  rw [addressedByMiss, h]

/-- An operation that is no hit frees the port with its devices closed. -/
theorem openRowLaw_of_completion {op : PortOperation} (law : openRowLaw s) (run : running s = true)
    (busy : s.port.operation = some op) (miss : op.isHit = false) (free : t.port.operation = none)
    (closed : ∀ d, deviceState t d =
      if d ∈ op.devices then { deviceState s d with openRow := none } else deviceState s d) : openRowLaw t := by
  refine openRowLaw_of_free free fun d => ?_
  have fits := (openRowLaw_iff.mp law).1 run d
  rw [addressedByMiss_of_operation busy, miss] at fits
  rw [closed]
  split_ifs with addressed
  · exact deviceFits_closed (by simpa [addressed] using fits)
  · simpa [addressed] using fits

/-- What a completion leaves of the devices, where the operation addressed one of them. -/
theorem deviceState_closed_of_devices {d : DeviceId} (devices : t.port.devices = (closeDevice d s).port.devices)
    (e : DeviceId) :
    deviceState t e = if e ∈ [d] then { deviceState s e with openRow := none } else deviceState s e := by
  rw [deviceState_congr devices, deviceState_closeDevice]
  simp only [List.mem_singleton]

/-- The end of a HOST ACCESS opens, keeps or closes its row with the timer that goes with it (R13, R14). -/
theorem openRowLaw_hostAccess {target : Row} {kind : RequestKind} {column length : Nat} {bytes : List Byte}
    {pageOpen hit : Bool} (law : openRowLaw s) (run : running s = true)
    (busy : s.port.operation = some (.hostAccess target kind column length bytes pageOpen hit)) :
    openRowLaw (openRowAtCompletion target pageOpen hit (freePort s)) := by
  refine openRowLaw_of_free rfl fun d => ?_
  have fits := (openRowLaw_iff.mp law).1 run d
  rw [addressedByMiss_of_operation busy] at fits
  simp only [openRowAtCompletion, deviceState_setDevice, freePort_deviceState, PortOperation.devices, PortOperation.isHit,
    List.contains_cons, List.contains_nil, Bool.or_false] at fits ⊢
  by_cases here : d = target.device
  · subst here
    cases hit with
    | true =>
      have row := law.2 _ _ _ _ _ _ busy
      obtain ⟨claim, -, follows⟩ := fits
      cases pageOpen with
      | true =>
        refine ⟨by simpa using claim, by simp, fun _ => ?_⟩
        simpa [row] using follows (by simp)
      | false => exact deviceFits_stopped (by simp) (by simp) (by simp)
    | false =>
      cases pageOpen with
      | true => simp [deviceFits]
      | false => simpa using deviceFits_closed (by simpa using fits)
  · rw [if_neg here]
    have other : (d == target.device) = false := by simpa using here
    simpa [other] using fits

/-- A grant stops the timers of the devices it addresses, or is a hit on the open row (R26). -/
theorem openRowLaw_arbitrate (law : openRowLaw s) : openRowLaw (arbitrate s) := by
  obtain ⟨eq, -⟩ | ⟨claim, op, free, -, granted, eq⟩ := arbitrate_grants (s := s)
  · rw [eq]
    exact law
  · have running_eq : running (arbitrate s) = running s := by simp [running]
    rw [eq] at running_eq ⊢
    refine openRowLaw_iff.mpr ⟨fun run d => ?_, ?_⟩
    · have fits := (openRowLaw_iff.mp law).1 (running_eq ▸ run) d
      rw [addressedByMiss, free] at fits
      rw [addressedByMiss_of_operation (grantClaim_operation granted), deviceState_grantClaim granted]
      by_cases addressed : d ∈ op.devices <;> cases hit : op.isHit
      · simpa [addressed] using deviceFits_granted (deviceState s d)
      · simpa [addressed] using fits
      · simpa [addressed] using fits
      · simpa [addressed] using fits
    · intro target kind column length bytes pageOpen busy
      rw [grantClaim_operation granted] at busy
      cases busy
      rw [deviceState_grantClaim granted, if_neg (by simp [PortOperation.isHit])]
      cases claim with
      | request =>
        obtain ⟨q, rest, -, eq⟩ := request_descriptor granted
        simp only [hostDescriptor, PortOperation.hostAccess.injEq] at eq
        obtain ⟨rfl, -, -, -, -, -, open_row⟩ := eq
        exact of_decide_eq_true open_row.symm
      | refresh urgent =>
        obtain ⟨e, rest, -, eq⟩ := refresh_descriptor granted
        cases eq
      | copy =>
        obtain ⟨j, rest, -, eq⟩ := copy_descriptor granted
        cases eq
      | probe k =>
        obtain ⟨row, burst, bytes, eq | eq⟩ := probe_descriptor granted <;> cases eq
      | close d => cases granted
      | init => cases granted

/-- A tick keeps a timer stopped, running or expired. -/
theorem Timer.tick_kind (timer : Timer) :
    (timer.tick = .stopped ↔ timer = .stopped) ∧ (timer.tick = .expired ↔ timer = .expired) ∧
      timer.tick.isRunning = timer.isRunning := by
  cases timer <;> simp [Timer.tick, Timer.isRunning]

theorem accepted_port (accepted : Accepted s t) : t.port = s.port := by
  cases accepted with
  | probeStart o mode pattern k i step free cool idle unused => rfl
  | probeAbort k running => exact (abortContext_probeChange s .host k).pass.port
  | retire home i free single unused => rfl
  | recordRead r => rfl
  | recordWrite o status margin writable ordinary free consistent unused =>
    obtain ⟨v, change, -, -, eq⟩ := writeRecord_jobChange (s := s) o status
    rw [eq]
    exact change.port
  | logRead w => rfl
  | logPop e rest head => exact (serveWaiting_probeChange _).pass.port
  | tempSupply reading => exact (readingArrives_passChange s reading).port

/-- Settles O12: each completion leaves its devices closed or open with the timer that goes with it, each grant stops the timers
it must, and an expiry raises its claim. -/
theorem stepKeepsOpenRowLaw : Obligations.StepKeepsOpenRowLaw := by
  intro s t law h
  refine step_keeps (premise := fun _ => True) (fun _ _ => id) (fun _ _ => id) ?_ ?_ (fun _ => openRowLaw_arbitrate)
    trivial law h
  · intro s t _ law change
    cases change with
    | nothing => exact law
    | time =>
      refine openRowLaw_iff.mpr ⟨fun run d => ?_, fun target kind column length bytes pageOpen busy => ?_⟩
      · have fits := (openRowLaw_iff.mp law).1 run d
        rw [deviceState_tickTimers]
        obtain ⟨stopped, expired, -⟩ := Timer.tick_kind (deviceState s d).timer
        unfold deviceFits at fits ⊢
        rw [expired, Ne, stopped]
        exact fits
      · rw [deviceState_tickTimers]
        exact law.2 _ _ _ _ _ _ busy
    | asserted =>
      refine openRowLaw_iff.mpr ⟨fun run => Bool.noConfusion run, ?_⟩
      intro target kind column length bytes pageOpen busy
      cases busy
    | released straps =>
      refine openRowLaw_of_free rfl fun d => ?_
      have closed : deviceState (releaseReset straps s) d = DeviceState.atReset := Quad.get_all _ _
      rw [closed]
      exact deviceFits_stopped rfl rfl rfl
    | logWait =>
      obtain ⟨_, _, _, _, _, _, _, _, eq⟩ := serveWaiting_probeChange s
      rw [eq]
      exact law
    | held full => exact law
    | discarded => exact law
    | window host requests interrupt queue access completions staging => exact law
    | posted q ready room behind => exact law
    | configured config mode legal => exact law
  · intro s u _ law run change
    cases change with
    | nothing => exact law
    | pauseExpired powerup => exact ⟨fun _ => law.1 run, law.2⟩
    | initCycle row op =>
      exact openRowLaw_of_completion law run op rfl rfl (deviceState_closed_of_devices (s := freePort s) rfl)
    | initEnded row op =>
      exact openRowLaw_of_completion law run op rfl rfl (deviceState_closed_of_devices (s := freePort s) rfl)
    | rowRefresh row op =>
      exact openRowLaw_of_completion law run op rfl rfl (deviceState_closed_of_devices (s := freePort s) rfl)
    | rowClose d op =>
      exact openRowLaw_of_completion law run op rfl rfl (deviceState_closed_of_devices (s := freePort s) rfl)
    | hostAccess decay target kind column length bytes pageOpen hit op =>
      rw [hostArrayEffect_eq]
      exact openRowLaw_of_port_eq (s := openRowAtCompletion target pageOpen hit (freePort s)) run (endAccess_port _ _)
        (openRowLaw_hostAccess law run op)
    | failedHead => exact openRowLaw_of_port_eq run (checkHead_port _) law
    | popped c rest head => exact openRowLaw_of_port_eq run (checkHead_port _) law
    | posted q ready empty => exact openRowLaw_of_port_eq run (checkHead_port _) law
    | copyBurst decay source target burst op =>
      refine openRowLaw_of_completion law run op rfl (by rw [(copyBurstResult_jobChange _).port]; rfl) fun d => ?_
      rw [deviceState_congr (congrArg ArrayPort.devices (copyBurstResult_jobChange _).port), deviceState_closeDevice,
        deviceState_closeDevice]
      have same : ∀ d, deviceState (copyArrayEffect source target burst decay s) d = deviceState s d := fun _ => rfl
      simp only [PortOperation.devices, List.mem_cons, List.not_mem_nil, or_false]
      split_ifs <;> simp_all
    | unwindEnd => exact openRowLaw_of_port_eq run (testUnwind_jobChange s).port law
    | patternBurst k row burst bytes op =>
      have port := (patternBurstResult_probeChange (closeDevice row.device
        (freePort (writeBytes row (Config.burstColumns * burst) bytes s))) k).job.port
      exact openRowLaw_of_completion law run op rfl (by rw [port]; rfl)
        (deviceState_closed_of_devices (s := freePort s) (by rw [port]; rfl))
    | checkBurst decay k row burst expected differing op =>
      have port := (checkBurstResult_jobChange (closeDevice row.device (freePort (applyDecay row decay s))) k differing).port
      exact openRowLaw_of_completion law run op rfl (by rw [port]; rfl)
        (deviceState_closed_of_devices (s := freePort s) (by rw [port]; rfl))
    | openRowExpired d runs =>
      have fits := (openRowLaw_iff.mp law).1 run
      have busy : addressedByMiss s d = false := by
        by_contra addressed
        rw [(fits d).2.1 (by simpa using addressed)] at runs
        cases runs
      have isOpen : (deviceState s d).openRow.isSome = true :=
        ((fits d).2.2 busy).mp fun stopped => by rw [stopped] at runs; cases runs
      refine openRowLaw_iff.mpr ⟨fun _ e => ?_, fun target kind column length bytes pageOpen busy => ?_⟩
      · have same : addressedByMiss (setDevice d { deviceState s d with timer := .expired, closeClaim := true } s) e =
            addressedByMiss s e := rfl
        rw [same, deviceState_setDevice]
        split_ifs with here
        · rw [here, busy]
          simp [deviceFits, isOpen]
        · exact fits e
      · have row := law.2 _ _ _ _ _ _ busy
        rw [deviceState_setDevice]
        split_ifs with here
        · rw [here] at row
          exact row
        · exact row
    | sliceExpired room => exact openRowLaw_of_port_eq run (takeExpiry_passChange s).port law
    | sensorTimeout => exact openRowLaw_of_port_eq run (testSensorTimeout_passChange s).port law
    | heldExpiry => exact openRowLaw_of_port_eq run (releaseHeld_passChange s).port law
    | visit c cursor =>
      obtain ⟨records, change⟩ := visitRow_passChange s c
      exact openRowLaw_of_port_eq run change.port law
    | forcedClear => exact openRowLaw_of_port_eq run (by rw [testForced_eq]) law
    | stretchExpired k stretch => exact law
    | conversion reading => exact openRowLaw_of_port_eq run (readingArrives_passChange _ reading).port law
    | softReset ready => exact openRowLaw_of_port_eq run (softResetEffects_port s) law
    | sensorMode external config mode legal => exact openRowLaw_of_port_eq run (enterThermal_passChange _ _).port law
    | command code t ready accepted =>
      have port := accepted_port accepted
      exact openRowLaw_of_port_eq run port law

end Sys2Proof.Machine
end

section
/-! PROOFS. What the probe operations leave in the contexts, the log and the redirect table, and the law of probes and temperature
(R137, R157). -/

namespace Sys2Proof.Machine

open Sys2Proof

variable {s t u : State}

/-! ### The contexts behind each operation -/

/-- The state a context ends in: IDLE with its entry logged where the log has room, else DONE (R147). -/
def endState (s : State) : ContextState := if s.probes.log.length < 8 then .idle else .done

theorem endState_cases : endState s = .idle ∨ endState s = .done := by
  unfold endState
  split_ifs
  · exact .inl rfl
  · exact .inr rfl

theorem contextOf_enterDone (k m : ContextId) (outcome : PendingOutcome) : contextOf (enterDone k outcome s) m =
    if m = k then { contextOf s k with state := endState s, outcome := some outcome } else contextOf s m := by
  unfold endState
  obtain ⟨room, eq⟩ | ⟨full, eq⟩ := enterDone_cases s k outcome <;> rw [eq]
  · rw [appendLog_eq, if_pos room]
    by_cases h : m = k <;> simp [contextOf, Quad.get_set, h]
  · rw [if_neg (Nat.not_lt.mpr full)]
    by_cases h : m = k <;> simp [contextOf, Quad.get_set, h]

theorem enterDone_log (k : ContextId) (outcome : PendingOutcome) : (enterDone k outcome s).probes.log =
    if s.probes.log.length < 8 then s.probes.log ++ [logEntryOf k { contextOf s k with outcome := some outcome }]
    else s.probes.log := by
  obtain ⟨room, eq⟩ | ⟨full, eq⟩ := enterDone_cases s k outcome <;> rw [eq]
  · rw [if_pos room, appendLog_eq]
    simp [logEntryOf]
  · rw [if_neg (Nat.not_lt.mpr full)]

theorem enterDone_waiting (k : ContextId) (outcome : PendingOutcome) : (enterDone k outcome s).probes.waiting =
    if s.probes.log.length < 8 then s.probes.waiting else s.probes.waiting ++ [k] := by
  obtain ⟨room, eq⟩ | ⟨full, eq⟩ := enterDone_cases s k outcome <;> rw [eq]
  · rw [if_pos room, appendLog_eq]
    rfl
  · rw [if_neg (Nat.not_lt.mpr full)]

@[simp] theorem enterDone_redirects (k : ContextId) (outcome : PendingOutcome) :
    (enterDone k outcome s).redirects = s.redirects := by
  obtain ⟨-, eq⟩ | ⟨-, eq⟩ := enterDone_cases s k outcome <;> rw [eq]
  · rfl

@[simp] theorem abandonJob_probes (isJob : CopyJob → Bool) : (abandonJob isJob s).probes = s.probes := by
  obtain ⟨-, eq⟩ | ⟨_, _, -, eq, -⟩ := abandonJob_cases s isJob <;> rw [eq]

@[simp] theorem changeRedirect_probes (i : ReservedIndex) (state : RedirectState) (owner : Owner) :
    (changeRedirect i state owner s).probes = s.probes := by
  rw [changeRedirect_eq]

@[simp] theorem departIfQueued_probes (r : Row) : (departIfQueued r s).probes = s.probes := by
  rw [(departIfQueued_departure r).frame]

@[simp] theorem retireRecord_probes (r : Row) (i : ReservedIndex) : (retireRecord r i s).probes = s.probes :=
  departIfQueued_probes r

@[simp] theorem departIfQueued_redirects (r : Row) : (departIfQueued r s).redirects = s.redirects := by
  rw [(departIfQueued_departure r).frame]

@[simp] theorem retireRecord_redirects (r : Row) (i : ReservedIndex) : (retireRecord r i s).redirects = s.redirects :=
  departIfQueued_redirects r

@[simp] theorem testUnwind_probes : (testUnwind s).probes = s.probes := by
  obtain ⟨-, eq⟩ | ⟨-, eq⟩ := testUnwind_cases s <;> rw [eq]
  rfl

@[simp] theorem testUnwind_redirects : (testUnwind s).redirects = s.redirects := by
  obtain ⟨-, eq⟩ | ⟨-, eq⟩ := testUnwind_cases s <;> rw [eq]
  rfl

@[simp] theorem testUnwind_records : (testUnwind s).records = s.records := by
  obtain ⟨-, eq⟩ | ⟨-, eq⟩ := testUnwind_cases s <;> rw [eq]
  rfl

@[simp] theorem applyOutcome_probes (c : ProbeContext) : (applyOutcome c s).probes = s.probes := by
  unfold applyOutcome
  split <;> rfl

@[simp] theorem reinstate_probes (c : ProbeContext) : (reinstate c s).probes = s.probes := by
  unfold reinstate
  split <;> rfl

@[simp] theorem applyOutcome_redirects (c : ProbeContext) : (applyOutcome c s).redirects = s.redirects := by
  unfold applyOutcome
  split <;> rfl

@[simp] theorem reinstate_redirects (c : ProbeContext) : (reinstate c s).redirects = s.redirects := by
  unfold reinstate
  split <;> rfl

/-- A context is a matter of the contexts alone. -/
theorem contextOf_congr_probes (h : t.probes = s.probes) (k : ContextId) : contextOf t k = contextOf s k :=
  contextOf_congr (by rw [h]) k

theorem contextOf_beginRestore (k m : ContextId) : contextOf (beginRestore k s) m =
    if m = k then { contextOf s k with state := .restoring } else contextOf s m := by
  rw [beginRestore_eq]
  by_cases h : m = k <;> simp [contextOf, Quad.get_set, h]

theorem contextOf_parkDone (k m : ContextId) : contextOf (parkDone k s) m =
    if m = k ∧ (contextOf s k).state = .parking then { contextOf s k with
      state := .writing, prior := some (savedRecord s.scheduler.epoch (recordOf s (contextOf s k).target))
      burstsDone := 0, mismatch := 0, firstFailing := none }
    else contextOf s m := by
  unfold parkDone
  dsimp only
  split
  · rename_i parking
    rw [contextOf_setContext]
    by_cases h : m = k
    · simp [h, parking]
    · rw [if_neg h, if_neg fun e => h e.1]
      exact contextOf_congr_probes (departIfQueued_probes _) m
  all_goals
    rename_i other
    rw [if_neg fun e => by rw [other] at e; cases e.2]

/-! ### The contexts that may be stopped -/

/-- No context comes to be stoppable that was not (R134), and the log stays within its eight entries (R149). -/
structure Calms (s t : State) : Prop where
  contexts : ∀ k, abortable (contextOf t k).state = true → abortable (contextOf s k).state = true
  log : s.probes.log.length ≤ 8 → t.probes.log.length ≤ 8

theorem Calms.refl : Calms s s := ⟨fun _ => id, id⟩

theorem Calms.of_states (h : ∀ k, (contextOf t k).state = (contextOf s k).state) (log : t.probes.log = s.probes.log) :
    Calms s t := ⟨fun k running => h k ▸ running, fun fits => by rwa [log]⟩

theorem Calms.of_probes_eq (h : t.probes = s.probes) : Calms s t :=
  .of_states (fun k => by rw [contextOf_congr_probes h]) (by rw [h])

theorem Calms.trans (first : Calms s t) (second : Calms t u) : Calms s u :=
  ⟨fun k running => first.contexts k (second.contexts k running), fun fits => second.log (first.log fits)⟩

/-- Of one context alone a new value is given. -/
theorem Calms.of_one {k : ContextId} {c : ProbeContext} (at_ : ∀ m, contextOf t m = if m = k then c else contextOf s m)
    (log : s.probes.log.length ≤ 8 → t.probes.log.length ≤ 8)
    (calm : abortable c.state = true → abortable (contextOf s k).state = true) : Calms s t := by
  refine ⟨fun m running => ?_, log⟩
  rw [at_] at running
  split_ifs at running with h
  · rw [h]
    exact calm running
  · exact running

theorem setContext_calms {k : ContextId} {c : ProbeContext}
    (calm : abortable c.state = true → abortable (contextOf s k).state = true) : Calms s (setContext k c s) :=
  .of_one (contextOf_setContext s k · c) id calm

theorem not_abortable_endState : abortable (endState s) = false := by
  obtain h | h := endState_cases (s := s) <;> rw [h] <;> rfl

theorem enterDone_calms (k : ContextId) (outcome : PendingOutcome) : Calms s (enterDone k outcome s) := by
  refine .of_one (contextOf_enterDone k · outcome) (fun fits => ?_) fun running => ?_
  · rw [enterDone_log]
    split_ifs with room
    · rw [List.length_append]
      exact room
    · exact fits
  · rw [not_abortable_endState] at running
    cases running

theorem serveWaiting_calms : Calms s (serveWaiting s) := by
  refine ⟨fun k running => ?_, fun fits => ?_⟩
  · obtain h | h := contextOf_serveWaiting (s := s) k <;> rw [h] at running
    · exact running
    · cases running
  · unfold serveWaiting logRoom Config.logEntries
    split
    · exact fits
    · split_ifs with room
      · simpa [appendLog_eq] using of_decide_eq_true room
      · exact fits

theorem beginRestore_calms (k : ContextId) : Calms s (beginRestore k s) :=
  .of_one (contextOf_beginRestore k) (by rw [beginRestore_eq]; exact id) fun running => Bool.noConfusion running

/-- An abort leaves its own context in a state that cannot be stopped, and the others as they are (R135 to R138). -/
theorem abortContext_calms (reason : AbortReason) (k : ContextId) :
    Calms s (abortContext reason k s) ∧ abortable (contextOf (abortContext reason k s) k).state = false := by
  have parked : ∀ t : State, Calms t (enterDone k abortedOutcome t) ∧
      abortable (contextOf (enterDone k abortedOutcome t) k).state = false := fun t =>
    ⟨enterDone_calms k _, by rw [contextOf_enterDone, if_pos rfl]; exact not_abortable_endState⟩
  have restoring : ∀ t : State, Calms t (beginRestore k t) ∧
      abortable (contextOf (beginRestore k t) k).state = false := fun t =>
    ⟨beginRestore_calms k, by rw [contextOf_beginRestore, if_pos rfl]; rfl⟩
  unfold abortContext
  split
  · rename_i parking
    unfold abortParking
    have abandoned : Calms s (setContext k { contextOf (abandonJob (isParkOf k) s) k with abortReason := some reason }
        (abandonJob (isParkOf k) s)) :=
      (Calms.of_probes_eq (abandonJob_probes _)).trans (setContext_calms id)
    cases reason with
    | reset => exact ⟨abandoned.trans (setContext_calms fun running => Bool.noConfusion running), by simp [abortable]⟩
    | host => exact ⟨abandoned.trans (parked _).1, (parked _).2⟩
    | thermal => exact ⟨abandoned.trans (parked _).1, (parked _).2⟩
  · exact ⟨Calms.trans (setContext_calms (by exact id)) (restoring _).1, (restoring _).2⟩
  · exact ⟨Calms.trans (setContext_calms (by exact id)) (restoring _).1, (restoring _).2⟩
  · exact ⟨Calms.trans (setContext_calms (by exact id)) (restoring _).1, (restoring _).2⟩
  · rename_i restoring
    split_ifs
    · exact ⟨setContext_calms id, by simp [restoring, abortable]⟩
    · exact ⟨.refl, by rw [restoring]; rfl⟩
  · rename_i done
    split_ifs
    · exact ⟨setContext_calms fun running => Bool.noConfusion running, by simp [abortable]⟩
    · exact ⟨.refl, by rw [done]; rfl⟩
  · rename_i idle
    exact ⟨.refl, by rw [idle]; rfl⟩

/-- An abort of every context leaves none that could be stopped (R137). -/
theorem abortAll_calms (reason : AbortReason) :
    Calms s (abortAll reason s) ∧ ∀ k, abortable (contextOf (abortAll reason s) k).state = false := by
  have fold : ∀ (l : List ContextId) (s : State), Calms s (l.foldl (fun t k => abortContext reason k t) s) ∧
      ∀ k ∈ l, abortable (contextOf (l.foldl (fun t k => abortContext reason k t) s) k).state = false := by
    intro l
    induction l with
    | nil => exact fun s => ⟨.refl, fun k hk => absurd hk List.not_mem_nil⟩
    | cons a rest ih =>
      intro s
      obtain ⟨calm, stopped⟩ := abortContext_calms (s := s) reason a
      obtain ⟨restCalm, restStopped⟩ := ih (abortContext reason a s)
      refine ⟨calm.trans restCalm, fun k hk => ?_⟩
      obtain rfl | later := List.mem_cons.mp hk
      · by_contra running
        have := restCalm.contexts k (by simpa using running)
        rw [stopped] at this
        cases this
      · exact restStopped k later
  exact ⟨(fold _ s).1, fun k => (fold allContexts s).2 k (by fin_cases k <;> decide)⟩

@[simp] theorem parkDone_log (k : ContextId) : (parkDone k s).probes.log = s.probes.log := by
  unfold parkDone
  dsimp only
  split
  · rw [setContext_probes, setRecord_probes, departIfQueued_probes]
  all_goals rfl

theorem parkDone_calms (k : ContextId) : Calms s (parkDone k s) := by
  refine ⟨fun m running => ?_, fun fits => by rwa [parkDone_log]⟩
  rw [contextOf_parkDone] at running
  split_ifs at running with h
  · rw [h.1, h.2]
    rfl
  · exact running

theorem restoreDone_calms (k : ContextId) : Calms s (restoreDone k s) := by
  unfold restoreDone
  dsimp only
  split
  · split
    · exact (Calms.of_probes_eq (applyOutcome_probes _)).trans (enterDone_calms _ _)
    · exact (Calms.of_probes_eq (reinstate_probes _)).trans (setContext_calms fun running => Bool.noConfusion running)
    · exact (Calms.of_probes_eq (reinstate_probes _)).trans (enterDone_calms _ _)
    · exact (Calms.of_probes_eq (reinstate_probes _)).trans (enterDone_calms _ _)
  all_goals exact .refl

theorem jobDone_calms (j : CopyJob) : Calms s (jobDone j s) := by
  unfold jobDone
  split
  · have changed : Calms s (changeRedirect j.index .parkHeld j.owner s) := .of_probes_eq (changeRedirect_probes _ _ _)
    cases j.owner with
    | context k => exact (Calms.of_probes_eq (changeRedirect_probes _ _ _)).trans (parkDone_calms k)
    | command => exact .of_probes_eq (changeRedirect_probes _ _ _)
  · have removed : Calms s (removeRedirect j.index s) := .of_probes_eq rfl
    refine Calms.trans ?_ (Calms.of_probes_eq testUnwind_probes)
    cases j.owner with
    | context k => exact removed.trans (restoreDone_calms k)
    | command => exact removed
  · refine .of_probes_eq ?_
    have retired : (retireRecord j.home j.index (changeRedirect j.index .spareActive .command s)).probes = s.probes := by
      rw [retireRecord_probes, changeRedirect_probes]
    exact retired

theorem copyBurstResult_calms : Calms s (copyBurstResult s) := by
  unfold copyBurstResult
  split
  · exact .refl
  · dsimp only
    split_ifs
    · exact .of_probes_eq rfl
    · unfold advanceJob
      split
      · exact .of_probes_eq rfl
      · split_ifs
        · exact .of_probes_eq rfl
        · exact Calms.trans (.of_probes_eq (by rfl)) (jobDone_calms _)

theorem finishProbe_calms (k : ContextId) : Calms s (finishProbe k s) := by
  unfold finishProbe
  dsimp only
  split_ifs
  · rw [convert_eq]
    exact Calms.trans (setContext_calms (by exact id)) (Calms.trans
      (.of_probes_eq ((retireRecord_probes _ _).trans (changeRedirect_probes _ _ _))) (enterDone_calms _ _))
  · exact Calms.trans (setContext_calms (by exact id)) (beginRestore_calms k)

theorem checkBurstResult_calms (k : ContextId) (differing : List Nat) : Calms s (checkBurstResult k differing s) := by
  unfold checkBurstResult
  split
  · rename_i checking
    dsimp only
    have counted : Calms s (setContext k (countBurst differing (contextOf s k)) s) := setContext_calms id
    have still : abortable (contextOf (setContext k (countBurst differing (contextOf s k)) s) k).state = true := by
      simp [countBurst, checking, abortable]
    split_ifs
    · exact counted
    · refine counted.trans ?_
      generalize setContext k (countBurst differing (contextOf s k)) s = t at still
      unfold endTrial
      dsimp only
      split_ifs
      · exact setContext_calms fun _ => still
      · exact setContext_calms fun _ => still
      · exact Calms.trans (setContext_calms (by exact id)) (finishProbe_calms k)
      · exact Calms.trans (setContext_calms (by exact id)) (finishProbe_calms k)
  all_goals exact .refl

theorem patternBurstResult_calms (k : ContextId) : Calms s (patternBurstResult k s) := by
  unfold patternBurstResult
  dsimp only
  split
  · rename_i writing
    split_ifs
    · exact setContext_calms id
    · exact setContext_calms fun _ => by rw [writing]; rfl
  all_goals exact .refl

/-! ### The soft reset -/

@[simp] theorem abandonRetire_probes : (abandonRetire s).probes = s.probes :=
  abandonJob_probes isRetire

/-- Before its aborts a soft reset leaves the contexts as they are. -/
theorem contextOf_softResetStart (k : ContextId) : contextOf (abandonRetire (softResetStart s)) k = contextOf s k :=
  contextOf_congr (by rw [abandonRetire_probes]; rfl) k

theorem softResetEffects_calms : Calms s (softResetEffects s) := by
  rw [softResetEffects_eq]
  have start : Calms s (abandonRetire (softResetStart s)) :=
    ⟨fun k => by rw [contextOf_softResetStart]; exact id, fun _ => by rw [abandonRetire_probes]; exact Nat.zero_le 8⟩
  exact (start.trans (abortAll_calms .reset).1).trans (.of_probes_eq (by rw [testUnwind_probes]; rfl))

/-! ### The law of probes and temperature -/

/-- The state of a change of sensor mode before the entry into HOT (R153). -/
def sensorChanged (external : Bool) (s : State) : State :=
  { s with
    config := { s.config with external := external }
    supervisor := { s.supervisor with
      window := [], stale := 0, conversion := markDiscard s.supervisor.conversion } }

theorem changeSensorMode_eq (external : Bool) (s : State) :
    changeSensorMode external s = enterThermal .hot (sensorChanged external s) := rfl

/-- With the window and the thermal state as they were, no context may come to be stoppable. -/
theorem thermalLaw_of_calms (calm : Calms s t) (supervisor : t.supervisor = s.supervisor) (law : thermalLaw s) :
    thermalLaw t := by
  unfold thermalLaw at *
  rw [supervisor]
  refine ⟨law.1, fun hot k => ?_⟩
  by_contra running
  have := calm.contexts k (by simpa using running)
  rw [law.2 hot k] at this
  cases this

/-- The entry into a thermal state makes the law hold where the window allows the state: at an entry into HOT the probes are aborted
(R137). -/
theorem thermalLaw_enterThermal {new : ThermalState} (window : s.supervisor.window.length < 4 → new = .hot)
    (quiet : s.supervisor.thermal = .hot → ∀ k, abortable (contextOf s k).state = false) :
    thermalLaw (enterThermal new s) := by
  obtain ⟨same, eq⟩ | ⟨change, cool, eq⟩ | ⟨change, hot, eq⟩ := enterThermal_cases s new <;> rw [eq]
  · exact ⟨fun short => same.trans (window short), quiet⟩
  · exact ⟨window, fun hot => absurd hot cool⟩
  · have kept := (abortAll_probeChange (raiseEvent .thermalChange
      { s with supervisor := { s.supervisor with thermal := new } }) .thermal).supervisor
    exact ⟨fun _ => by rw [kept]; exact hot, fun _ => (abortAll_calms .thermal).2⟩

theorem thermalLaw_readingArrives {reading : Int}
    (short : s.supervisor.window.length < 4 → s.supervisor.thermal = .hot)
    (quiet : s.supervisor.thermal = .hot → ∀ k, abortable (contextOf s k).state = false) :
    thermalLaw (readingArrives reading s) := by
  unfold readingArrives
  dsimp only
  generalize joined : (if s.supervisor.window.length < Config.windowReadings then s.supervisor.window
    else s.supervisor.window.drop 1) ++ [reading] = window
  have longer : window.length < 4 → s.supervisor.window.length < 4 := by
    rw [← joined]
    unfold Config.windowReadings
    split_ifs <;> simp <;> omega
  split_ifs with few
  · exact ⟨fun fewer => short (longer fewer), quiet⟩
  · exact thermalLaw_enterThermal (fun fewer => absurd fewer few) quiet

theorem thermalLaw_testSensorTimeout (law : thermalLaw s) : thermalLaw (testSensorTimeout s) := by
  unfold testSensorTimeout
  split_ifs
  · exact thermalLaw_enterThermal (s := { s with supervisor := { s.supervisor with window := [], stale := 0 } })
      (fun _ => rfl) law.2
  · exact law

theorem thermalLaw_supervisorPassStart (law : thermalLaw s) : thermalLaw (supervisorPassStart s) := by
  unfold supervisorPassStart
  split_ifs
  · exact thermalLaw_testSensorTimeout law
  · split <;> exact law

theorem thermalLaw_passStart (law : thermalLaw s) : thermalLaw (passStart s) :=
  thermalLaw_supervisorPassStart law

theorem thermalLaw_takeExpiry (law : thermalLaw s) : thermalLaw (takeExpiry s) := by
  rw [takeExpiry_eq_expiryPass]
  unfold expiryPass
  dsimp only
  split_ifs
  · exact thermalLaw_passStart (s := { s with scheduler := { s.scheduler with serial := _ } }) law
  · exact law

theorem thermalLaw_releaseHeld (law : thermalLaw s) : thermalLaw (releaseHeld s) := by
  obtain ⟨-, -, eq⟩ | ⟨-, eq⟩ := releaseHeld_cases (s := s) <;> rw [eq]
  · exact thermalLaw_takeExpiry law
  · exact law

theorem thermalLaw_advanceScan {c : ScanCursor} (law : thermalLaw s) : thermalLaw (advanceScan c s) := by
  obtain ⟨-, eq⟩ | ⟨-, -, eq⟩ | ⟨-, -, eq⟩ := advanceScan_cases (s := s) c <;> rw [eq]
  · exact law
  · exact law
  · rw [endScan_eq, testForced_eq]
    exact thermalLaw_releaseHeld (s := scanEnded c s) law

theorem thermalLaw_visitRow {c : ScanCursor} (law : thermalLaw s) : thermalLaw (visitRow c s) := by
  have aged : thermalLaw (ageDemotion c.visited s) := by
    obtain ⟨_, _, eq⟩ := ageDemotion_eq (s := s) c.visited
    rw [eq]
    exact law
  obtain ⟨-, -, -, eq⟩ | ⟨-, -, -, eq⟩ | ⟨-, eq⟩ := visitRow_cases (s := s) c <;> rw [eq]
  · exact aged
  · exact thermalLaw_advanceScan (s := appendDue c.visited c.serial (ageDemotion c.visited s)) aged
  · exact thermalLaw_advanceScan aged

theorem thermalLaw_accepted (law : thermalLaw s) (accepted : Accepted s t) : thermalLaw t := by
  cases accepted with
  | probeStart o mode pattern k i step free cool idle unused => exact ⟨law.1, fun hot => absurd hot cool⟩
  | probeAbort k running =>
    exact thermalLaw_of_calms (abortContext_calms .host k).1 (abortContext_probeChange s .host k).supervisor law
  | retire home i free single unused => exact law
  | recordRead r => exact law
  | recordWrite o status margin writable ordinary free consistent unused =>
    unfold writeRecord
    split_ifs
    · have probes : (retireRecord o.row o.spare
          (setRedirect o.spare { home := o.row, state := .spareActive, owner := .command } s)).probes = s.probes := by
        rw [retireRecord_probes, setRedirect_probes]
      have change := retireRecord_jobChange
        (setRedirect o.spare { home := o.row, state := .spareActive, owner := .command } s) o.row o.spare
      exact thermalLaw_of_calms (.of_probes_eq probes) change.supervisor law
    · exact law
  | logRead w => exact law
  | logPop e rest head =>
    exact thermalLaw_of_calms (s := { s with probes := { s.probes with log := rest } }) serveWaiting_calms
      (serveWaiting_probeChange _).supervisor law
  | tempSupply reading => exact thermalLaw_readingArrives (s := s) law.1 law.2

/-- Settles O16: no context comes to be stoppable but by PROBE START, which is refused in HOT, and every entry into HOT stops the
probes. -/
theorem stepKeepsThermalLaw : Obligations.StepKeepsThermalLaw := by
  intro s t law h
  refine step_keeps (premise := fun _ => True) (fun _ _ => id) (fun _ _ => id) ?_ ?_ ?_ trivial law h
  · intro s t _ law change
    cases change with
    | nothing => exact law
    | time => exact thermalLaw_of_calms (s := s) (.of_states (fun k => by rw [contextOf_tickTimers]) rfl) rfl law
    | asserted => exact law
    | released straps => exact ⟨fun _ => rfl, fun _ k => by fin_cases k <;> rfl⟩
    | logWait => exact thermalLaw_of_calms serveWaiting_calms (serveWaiting_probeChange s).supervisor law
    | held full => exact law
    | discarded => exact law
    | window host requests interrupt queue access completions staging => exact law
    | posted q ready room behind => exact law
    | configured config mode legal => exact law
  · intro s u _ law run change
    cases change with
    | nothing => exact law
    | pauseExpired powerup => exact law
    | initCycle row op => exact law
    | initEnded row op => exact law
    | rowRefresh row op => exact law
    | rowClose d op => exact law
    | hostAccess decay target kind column length bytes pageOpen hit op =>
      rw [endAccess_frame, hostArrayEffect_eq]
      exact law
    | failedHead =>
      rw [checkHead_frame]
      exact law
    | popped c rest head =>
      rw [checkHead_frame]
      exact law
    | posted q ready empty =>
      rw [checkHead_frame]
      exact law
    | copyBurst decay source target burst op =>
      exact thermalLaw_of_calms copyBurstResult_calms (copyBurstResult_jobChange _).supervisor law
    | unwindEnd => exact thermalLaw_of_calms (.of_probes_eq testUnwind_probes) (testUnwind_jobChange s).supervisor law
    | patternBurst k row burst bytes op =>
      exact thermalLaw_of_calms (patternBurstResult_calms k) (patternBurstResult_probeChange _ k).supervisor law
    | checkBurst decay k row burst expected differing op =>
      exact thermalLaw_of_calms (checkBurstResult_calms k differing) (checkBurstResult_jobChange _ _ _).supervisor law
    | openRowExpired d runs => exact law
    | sliceExpired room => exact thermalLaw_takeExpiry law
    | sensorTimeout => exact thermalLaw_testSensorTimeout law
    | heldExpiry => exact thermalLaw_releaseHeld law
    | visit c cursor => exact thermalLaw_visitRow law
    | forcedClear =>
      rw [testForced_eq]
      exact law
    | stretchExpired k stretch =>
      exact thermalLaw_of_calms (setContext_calms fun _ => by rw [stretch]; rfl) rfl law
    | conversion reading =>
      exact thermalLaw_readingArrives (s := { s with supervisor := { s.supervisor with conversion := .idle } }) law.1 law.2
    | softReset ready =>
      exact thermalLaw_of_calms softResetEffects_calms (softResetEffects_supervisor s) law
    | sensorMode external config mode legal => exact thermalLaw_enterThermal (fun _ => rfl) law.2
    | command code t ready accepted =>
      have kept := thermalLaw_accepted (s := { s with host := { s.host with command := code } }) law accepted
      exact kept
  · intro s law
    exact thermalLaw_of_calms (.of_states contextOf_arbitrate_state (arbitrate_log s)) (arbitrate_supervisor s) law

end Sys2Proof.Machine
end

section
/-! PROOFS. FORCED and the failed heads (R73, R85), and the capacities of queues, counts and windows. -/

namespace Sys2Proof.Machine

open Sys2Proof

variable {s t u : State}

/-! ### FORCED -/

/-- With a slice pending, FORCED has not outlasted its conditions. -/
theorem forcedLaw_of_pending (pending : 0 < s.scheduler.pendingSlices) : forcedLaw s := fun _ => by
  simp only [forcedMayClear, Bool.and_eq_false_iff, beq_eq_false_iff_ne]
  exact .inr (by omega)

theorem forcedLaw_takeExpiry : forcedLaw (takeExpiry s) :=
  forcedLaw_of_pending (by rw [takeExpiry_scheduler]; exact Nat.succ_pos _)

theorem forcedLaw_releaseHeld (law : forcedLaw s) : forcedLaw (releaseHeld s) := by
  obtain ⟨-, -, eq⟩ | ⟨-, eq⟩ := releaseHeld_cases (s := s) <;> rw [eq]
  · exact forcedLaw_takeExpiry
  · exact law

/-- An entry that joins the due queue ends no condition of FORCED. -/
theorem forcedLaw_appendDue (row : Row) (stamp : Nat) (law : forcedLaw s) : forcedLaw (appendDue row stamp s) := by
  intro forced
  have before : forcedMayClear s = false := law forced
  have urgent : ∀ e, isUrgent (appendDue row stamp s) e = isUrgent s e := fun _ => rfl
  simp only [forcedMayClear, Bool.and_eq_false_iff, urgent] at before ⊢
  exact before.imp (fun h => by simp [h]) id

theorem forcedLaw_advanceScan (c : ScanCursor) (law : forcedLaw s) : forcedLaw (advanceScan c s) := by
  obtain ⟨-, eq⟩ | ⟨-, -, eq⟩ | ⟨-, -, eq⟩ := advanceScan_cases (s := s) c <;> rw [eq]
  · exact law
  · exact law
  · exact forcedLaw_testForced

theorem forcedLaw_visitRow (c : ScanCursor) (law : forcedLaw s) : forcedLaw (visitRow c s) := by
  obtain ⟨_, _, aged⟩ := ageDemotion_eq (s := s) c.visited
  obtain ⟨-, -, -, eq⟩ | ⟨-, -, -, eq⟩ | ⟨-, eq⟩ := visitRow_cases (s := s) c <;> rw [eq, aged]
  · exact law
  · exact forcedLaw_advanceScan c (forcedLaw_appendDue c.visited c.serial law)
  · exact forcedLaw_advanceScan c law

/-- The departures of a grant test for the end of FORCED (R70, R73). -/
theorem forcedLaw_arbitrate (law : forcedLaw s) : forcedLaw (arbitrate s) := by
  obtain ⟨eq, -⟩ | ⟨claim, op, -, -, granted, eq⟩ := arbitrate_grants (s := s) <;> rw [eq]
  · exact law
  · refine (grantClaim_departure granted).law ?_
    cases claim with
    | refresh urgent =>
      obtain ⟨e, rest, head, -⟩ := refresh_descriptor granted
      rw [claimantEffects, takeRefreshHead_eq head]
      exact forcedLaw_testForced
    | request =>
      obtain ⟨q, rest, head, -⟩ := request_descriptor granted
      rw [claimantEffects, fillAccessRecord_eq head]
      exact law
    | close d => exact law
    | copy => exact law
    | probe k => exact law
    | init => exact law

theorem forcedLaw_accepted (law : forcedLaw s) (accepted : Accepted s t) : forcedLaw t := by
  cases accepted with
  | probeStart o mode pattern k i step free cool idle unused => exact law
  | probeAbort k running => exact forcedLaw_congr (abortContext_probeChange s .host k).scheduler law
  | retire home i free single unused => exact law
  | recordRead r => exact law
  | recordWrite o status margin writable ordinary free consistent unused => exact (writeRecord_sheds s o status).law law
  | logRead w => exact law
  | logPop e rest head =>
    exact forcedLaw_congr (s := { s with probes := { s.probes with log := rest } }) (serveWaiting_probeChange _).scheduler law
  | tempSupply reading => exact forcedLaw_congr (s := s) (readingArrives_keepsScheduler reading).1 law

theorem forcedLaw_arbitrated (law : forcedLaw s) (change : Arbitrated s u) : forcedLaw u := by
  cases change with
  | nothing => exact law
  | pauseExpired powerup => exact law
  | initCycle row op => exact law
  | initEnded row op => exact law
  | rowRefresh row op => exact law
  | rowClose d op => exact law
  | hostAccess decay target kind column length bytes pageOpen hit op =>
    rw [hostArrayEffect_eq]
    exact forcedLaw_congr (endAccess_scheduler _ _) law
  | failedHead => exact forcedLaw_congr (checkHead_scheduler _) law
  | popped c rest head => exact forcedLaw_congr (s := s) (checkHead_scheduler _) law
  | posted q ready empty => exact forcedLaw_congr (s := s) (checkHead_scheduler _) law
  | copyBurst decay source target burst op => exact (copyBurstResult_sheds _).law law
  | unwindEnd => exact forcedLaw_congr (testUnwind_scheduler _) law
  | patternBurst k row burst bytes op =>
    exact forcedLaw_congr (s := s) (patternBurstResult_probeChange _ k).scheduler law
  | checkBurst decay k row burst expected differing op => exact (checkBurstResult_sheds _ k differing).law law
  | openRowExpired d runs => exact law
  | sliceExpired room =>
    exact forcedLaw_of_pending (s := startSliceTimer (takeExpiry s)) (by
      rw [startSliceTimer_scheduler, takeExpiry_scheduler]; exact Nat.succ_pos _)
  | sensorTimeout => exact forcedLaw_congr testSensorTimeout_keepsScheduler.1 law
  | heldExpiry => exact forcedLaw_releaseHeld law
  | visit c cursor => exact forcedLaw_visitRow c law
  | forcedClear => exact forcedLaw_testForced
  | stretchExpired k stretch => exact law
  | conversion reading => exact forcedLaw_congr (s := s) (readingArrives_keepsScheduler reading).1 law
  | softReset ready => exact forcedLaw_congr (softResetEffects_scheduler s) law
  | sensorMode external config mode legal => exact forcedLaw_congr (s := s) (enterThermal_keepsScheduler .hot).1 law
  | command code t ready accepted =>
    have kept := forcedLaw_accepted (s := { s with host := { s.host with command := code } }) law accepted
    exact kept

theorem forcedLaw_unarbitrated (law : forcedLaw s) (change : Unarbitrated s t) : forcedLaw t := by
  cases change with
  | nothing => exact law
  | time => exact law
  | asserted => exact law
  | released straps => exact fun forced => Bool.noConfusion forced
  | logWait => exact forcedLaw_congr (serveWaiting_probeChange s).scheduler law
  | held full => exact law
  | discarded => exact law
  | window host requests interrupt queue access completions staging => exact law
  | posted q ready room behind => exact law
  | configured config mode legal => exact law

/-! ### Failed heads -/

/-- A head is FAILED while it is not IN_ACCESS and fails a check (R84, R86). -/
theorem headCondition_failed_iff : headCondition s = some .failed ↔
    liveAccess s = false ∧ ∃ q rest, s.requests.requests = q :: rest ∧ (executionCheck s.deviceCount q).isSome = true := by
  unfold headCondition
  cases queue : s.requests.requests with
  | nil => simp
  | cons q rest =>
    cases live : liveAccess s with
    | true => simp
    | false =>
      cases failed : (executionCheck s.deviceCount q).isSome with
      | true => simp [failed]
      | false =>
        cases room : completionRoom s with
        | true =>
          simp only [failed, Bool.false_eq_true, if_false, Bool.not_true, List.cons.injEq]
          cases lookup s q.row <;> simp [failed]
        | false => simp [failed]

/-- Whether a failed head waits, and for room alone, is a matter of the request engine and the device count. -/
theorem failedHeadLaw_congr (run : running s = true) (requests : t.requests = s.requests)
    (devices : t.deviceCount = s.deviceCount) (law : failedHeadLaw s) : failedHeadLaw t := by
  have live : liveAccess t = liveAccess s := by rw [liveAccess, requests]; rfl
  have room : completionRoom t = completionRoom s := by rw [completionRoom, requests]; rfl
  intro _ failed
  rw [headCondition_failed_iff, live, requests, devices, ← headCondition_failed_iff] at failed
  rw [room]
  exact law run failed

theorem failedHeadLaw_of_empty (empty : s.requests.requests = []) : failedHeadLaw s := fun _ failed => by
  obtain ⟨-, q, rest, queue, -⟩ := headCondition_failed_iff.mp failed
  rw [empty] at queue
  cases queue

/-- After a check of the head it is not FAILED with room in the CQ (R85). -/
theorem failedHeadLaw_checkHead : failedHeadLaw (checkHead s) := fun _ failed => by
  obtain ⟨live, q, rest, queue, fails⟩ := headCondition_failed_iff.mp failed
  have access := checkHead_access s
  rw [checkHead_eq] at live queue fails access ⊢
  split_ifs at live queue fails access ⊢ with busy
  · rw [busy] at live
    cases live
  · obtain ⟨_, -, -, -, -, frame, stop⟩ := endFailedHeads_spec s _ rfl
    have devices : (endFailedHeads s.requests.requests s).deviceCount = s.deviceCount := by rw [frame]
    rw [devices] at fails
    exact stop q rest queue fails

theorem failedHeadLaw_endAccess (data : List Byte) (run : running s = true) (law : failedHeadLaw s) :
    failedHeadLaw (endAccess data s) := by
  unfold endAccess
  split
  · exact law
  · rename_i a access
    dsimp only
    split_ifs with discarded
    · intro _ failed
      have live : liveAccess s = false := by simp [liveAccess, access, discarded]
      refine law run ?_
      rw [headCondition_failed_iff] at failed ⊢
      exact ⟨live, failed.2⟩
    · unfold endRequest
      split
      · exact failedHeadLaw_of_empty ‹_›
      · exact failedHeadLaw_checkHead

theorem failedHeadLaw_arbitrate (law : failedHeadLaw s) : failedHeadLaw (arbitrate s) := by
  intro run failed
  have running : running s = true := by rwa [running, arbitrate_controller] at run
  have room : completionRoom (arbitrate s) = completionRoom s := by
    rw [completionRoom, arbitrate_completions]
    rfl
  rw [room]
  rw [headCondition_failed_iff, arbitrate_requests, arbitrate_deviceCount] at failed
  refine law running (headCondition_failed_iff.mpr ⟨?_, failed.2⟩)
  replace failed := failed.1
  obtain ⟨eq, -⟩ | ⟨claim, op, -, chosen, granted, eq⟩ := arbitrate_grants (s := s) <;> rw [eq] at failed
  · exact failed
  · rw [liveAccess, grantClaim_requests granted] at failed
    cases claim with
    | request =>
      obtain ⟨q, rest, head, -⟩ := request_descriptor granted
      rw [claimantEffects, fillAccessRecord_eq head] at failed
      cases failed
    | refresh urgent =>
      obtain ⟨e, rest, head, -⟩ := refresh_descriptor granted
      rw [claimantEffects, takeRefreshHead_eq head, (departDue_departure _).frame] at failed
      exact failed
    | close d => exact failed
    | copy => exact failed
    | probe k => exact failed
    | init => exact failed

theorem accepted_requests (accepted : Accepted s t) : t.requests = s.requests ∧ t.deviceCount = s.deviceCount := by
  cases accepted with
  | probeStart o mode pattern k i step free cool idle unused => exact ⟨rfl, rfl⟩
  | probeAbort k running =>
    have change := (abortContext_probeChange s .host k).pass
    exact ⟨change.requests, change.deviceCount⟩
  | retire home i free single unused => exact ⟨rfl, rfl⟩
  | recordRead r => exact ⟨rfl, rfl⟩
  | recordWrite o status margin writable ordinary free consistent unused =>
    obtain ⟨v, change, -, -, eq⟩ := writeRecord_jobChange (s := s) o status
    rw [eq]
    exact ⟨change.requests, change.deviceCount⟩
  | logRead w => exact ⟨rfl, rfl⟩
  | logPop e rest head =>
    have change := (serveWaiting_probeChange { s with probes := { s.probes with log := rest } }).pass
    exact ⟨change.requests, change.deviceCount⟩
  | tempSupply reading =>
    have change := readingArrives_passChange s reading
    exact ⟨change.requests, change.deviceCount⟩

theorem failedHeadLaw_arbitrated (run : running s = true) (law : failedHeadLaw s) (change : Arbitrated s u) :
    failedHeadLaw u := by
  have same : ∀ v : State, v.requests = s.requests → v.deviceCount = s.deviceCount → failedHeadLaw v :=
    fun v requests devices => failedHeadLaw_congr run requests devices law
  have ofJob : ∀ v w : State, JobChange v w → v.requests = s.requests → v.deviceCount = s.deviceCount →
      failedHeadLaw w := fun v w change requests devices =>
    same w (change.requests.trans requests) (change.deviceCount.trans devices)
  have ofPass : ∀ v w : State, PassChange v w → v.requests = s.requests → v.deviceCount = s.deviceCount →
      failedHeadLaw w := fun v w change requests devices =>
    same w (change.requests.trans requests) (change.deviceCount.trans devices)
  cases change with
  | nothing => exact law
  | pauseExpired powerup => exact same _ rfl rfl
  | initCycle row op => exact same _ rfl rfl
  | initEnded row op => exact same _ rfl rfl
  | rowRefresh row op => exact same _ rfl rfl
  | rowClose d op => exact same _ rfl rfl
  | hostAccess decay target kind column length bytes pageOpen hit op =>
    rw [hostArrayEffect_eq]
    refine failedHeadLaw_endAccess _ ?_ (same _ rfl rfl)
    exact run
  | failedHead => exact failedHeadLaw_checkHead
  | popped c rest head => exact failedHeadLaw_checkHead
  | posted q ready empty => exact failedHeadLaw_checkHead
  | copyBurst decay source target burst op => exact ofJob _ _ (copyBurstResult_jobChange _) rfl rfl
  | unwindEnd => exact ofJob _ _ (testUnwind_jobChange s) rfl rfl
  | patternBurst k row burst bytes op => exact ofJob _ _ (patternBurstResult_probeChange _ k).job rfl rfl
  | checkBurst decay k row burst expected differing op => exact ofJob _ _ (checkBurstResult_jobChange _ k differing) rfl rfl
  | openRowExpired d runs => exact same _ rfl rfl
  | sliceExpired room =>
    exact same (startSliceTimer (takeExpiry s))
        ((startSliceTimer_requests _).trans (takeExpiry_passChange s).requests)
      ((startSliceTimer_deviceCount _).trans (takeExpiry_passChange s).deviceCount)
  | sensorTimeout => exact ofPass _ _ (testSensorTimeout_passChange s) rfl rfl
  | heldExpiry => exact ofPass _ _ (releaseHeld_passChange s) rfl rfl
  | visit c cursor =>
    obtain ⟨records, change⟩ := visitRow_passChange s c
    exact ofPass _ _ change rfl rfl
  | forcedClear => exact same _ (by rw [testForced_eq]) (by rw [testForced_eq])
  | stretchExpired k stretch => exact same _ rfl rfl
  | conversion reading => exact ofPass _ _ (readingArrives_passChange _ reading) rfl rfl
  | softReset ready => exact failedHeadLaw_of_empty (by rw [softResetEffects_requests]; rfl)
  | sensorMode external config mode legal =>
    have change := enterThermal_passChange (sensorChanged external { s with config := config }) .hot
    exact same _ change.requests change.deviceCount
  | command code t ready accepted =>
    obtain ⟨requests, devices⟩ := accepted_requests accepted
    exact same _ requests devices

theorem failedHeadLaw_unarbitrated (law : failedHeadLaw s) (change : Unarbitrated s t) : failedHeadLaw t := by
  cases change with
  | nothing => exact law
  | time => exact law
  | asserted => exact fun run => Bool.noConfusion run
  | released straps => exact failedHeadLaw_of_empty rfl
  | logWait =>
    have change := (serveWaiting_probeChange s).pass
    intro run
    have running : running s = true := by rwa [running, change.controller] at run
    exact failedHeadLaw_congr running change.requests change.deviceCount law run
  | held full => exact law
  | discarded => exact law
  | window host requests interrupt queue access completions staging =>
    intro run failed
    rw [headCondition_failed_iff] at failed
    simp only [completionRoom, completions]
    refine law run (headCondition_failed_iff.mpr ?_)
    simpa only [liveAccess, queue, access] using failed
  | posted q ready room behind =>
    intro run failed
    refine law run (headCondition_failed_iff.mpr ?_)
    obtain ⟨live, p, rest, eq, fails⟩ := headCondition_failed_iff.mp failed
    obtain ⟨a, l, queue⟩ := List.exists_cons_of_ne_nil behind
    simp only [acceptPost, queue, List.cons_append, List.cons.injEq] at eq
    exact ⟨live, a, l, queue, by rw [eq.1]; exact fails⟩
  | configured config mode legal => exact law

/-- Settles O17: every change that could end FORCED's conditions tests for its end, and every change of the head checks it. -/
theorem stepKeepsForcedAndFailedHeadLaws : Obligations.StepKeepsForcedAndFailedHeadLaws := by
  intro s t h
  refine ⟨fun law => ?_, fun law => ?_⟩
  · exact step_keeps (premise := fun _ => True) (fun _ _ => id) (fun _ _ => id)
      (fun _ _ _ => forcedLaw_unarbitrated) (fun _ _ _ law _ => forcedLaw_arbitrated law) (fun _ => forcedLaw_arbitrate)
      trivial law h
  · exact step_keeps (premise := fun _ => True) (fun _ _ => id) (fun _ _ => id)
      (fun _ _ _ => failedHeadLaw_unarbitrated) (fun _ _ _ law run => failedHeadLaw_arbitrated run law)
      (fun _ => failedHeadLaw_arbitrate) trivial law h

end Sys2Proof.Machine
end

section
/-! PROOFS. The capacities of queues, counts and windows (R29, R62, R69, R80, R81, R93, R149, R156, R159). -/

namespace Sys2Proof.Machine

open Sys2Proof

variable {s t u : State}

/-! ### The law in its parts -/

/-- The request engine's queues are within their capacities; while a live access is on the port the CQ has room (R80, R81, R86,
R93). -/
def requestsFit (e : RequestEngine) : Prop :=
  e.requests.length ≤ 16 ∧ e.completions.length ≤ 16 ∧ e.staging.length ≤ 64 ∧
    (e.access.any (fun a => !a.discarded) = true → e.completions.length < 16)

/-- The due queue and the pending slices are within their capacities (R62, R69). -/
def schedulerFits (c : Scheduler) : Prop := c.due.length ≤ 512 ∧ c.pendingSlices ≤ 15

/-- The reading window and the staleness count are within their capacities (R156, R159). -/
def supervisorFits (v : Supervisor) : Prop := v.window.length ≤ 4 ∧ v.stale ≤ 3

theorem liveAccess_eq : liveAccess s = s.requests.access.any (fun a => !a.discarded) := by
  unfold liveAccess
  cases s.requests.access <;> rfl

theorem capacityLaw_iff : capacityLaw s ↔ requestsFit s.requests ∧ schedulerFits s.scheduler ∧
    s.probes.log.length ≤ 8 ∧ supervisorFits s.supervisor ∧ s.port.hostGrants ≤ 8 := by
  unfold capacityLaw requestsFit schedulerFits supervisorFits
  rw [liveAccess_eq]
  tauto

/-! ### The request engine -/

theorem requestsFit_endFailedHeads (fits : requestsFit s.requests) (live : liveAccess s = false) :
    requestsFit (endFailedHeads s.requests.requests s).requests := by
  rw [endFailedHeads_eq s _ rfl]
  dsimp only
  split
  · exact fits
  · obtain ⟨queue, completions, staging, -⟩ := fits
    rw [liveAccess_eq] at live
    refine ⟨(List.drop_sublist _ _).length_le.trans queue, ?_, staging, fun busy => ?_⟩
    · have taken : (failedCompletions s.deviceCount (16 - s.requests.completions.length) s.requests.requests).length ≤
          16 - s.requests.completions.length := by
        simp [failedCompletions, List.length_take]
      simp only [withEvents, List.length_append]
      omega
    · simp only [withEvents, live] at busy
      cases busy

theorem requestsFit_checkHead (fits : requestsFit s.requests) : requestsFit (checkHead s).requests := by
  rw [checkHead_eq]
  split_ifs with live
  · exact fits
  · exact requestsFit_endFailedHeads fits (by simpa using live)

theorem requestsFit_endAccess (data : List Byte) (fits : requestsFit s.requests) :
    requestsFit (endAccess data s).requests := by
  obtain ⟨queue, completions, staging, room⟩ := fits
  unfold endAccess
  split
  · exact ⟨queue, completions, staging, room⟩
  · rename_i a access
    dsimp only
    split_ifs with discarded
    · exact ⟨queue, completions, staging, fun busy => Bool.noConfusion busy⟩
    · have free := room (by simp [access, discarded])
      unfold endRequest
      split
      · exact ⟨queue, completions, staging, fun busy => Bool.noConfusion busy⟩
      · rename_i q rest head
        refine requestsFit_checkHead ⟨?_, ?_, staging, fun busy => Bool.noConfusion busy⟩
        · change s.requests.requests = q :: rest at head
          rw [head, List.length_cons] at queue
          exact Nat.le_of_succ_le queue
        · simp only [appendCompletion_requests, List.length_append, List.length_singleton]
          omega

/-- A HOST ACCESS is granted to a head that claims, and so with room in the CQ (R22, R86). -/
theorem room_of_requestRaised (raised : claimRaised s .request = true) : s.requests.completions.length < 16 := by
  simp only [claimRaised, Claim.condition, requestRaised, Bool.and_eq_true, beq_iff_eq] at raised
  obtain ⟨-, -, claiming⟩ := raised
  by_contra none
  have full : completionRoom s = false := decide_eq_false none
  unfold headCondition at claiming
  split at claiming
  · cases claiming
  · simp only [full, Bool.not_false, if_true] at claiming
    split_ifs at claiming <;> cases claiming

theorem requestsFit_arbitrate (fits : requestsFit s.requests) : requestsFit (arbitrate s).requests := by
  obtain ⟨eq, -⟩ | ⟨claim, op, -, chosen, granted, eq⟩ := arbitrate_grants (s := s) <;> rw [eq]
  · exact fits
  · rw [grantClaim_requests granted]
    obtain ⟨queue, completions, staging, room⟩ := fits
    cases claim with
    | request =>
      obtain ⟨q, rest, head, -⟩ := request_descriptor granted
      have free := room_of_requestRaised (chooseClaim_raised chosen).1
      rw [claimantEffects, fillAccessRecord_eq head]
      exact ⟨queue, completions, staging, fun _ => free⟩
    | refresh urgent =>
      obtain ⟨e, rest, head, -⟩ := refresh_descriptor granted
      rw [claimantEffects, takeRefreshHead_eq head, (departDue_departure _).frame]
      exact ⟨queue, completions, staging, room⟩
    | close d => exact ⟨queue, completions, staging, room⟩
    | copy => exact ⟨queue, completions, staging, room⟩
    | probe k => exact ⟨queue, completions, staging, room⟩
    | init => exact ⟨queue, completions, staging, room⟩

/-! ### The scheduler -/

theorem Sheds.fits (h : Sheds s t) (fits : schedulerFits s.scheduler) : schedulerFits t.scheduler :=
  ⟨h.due.length_le.trans fits.1, by rw [h.frame]; exact fits.2⟩

theorem schedulerFits_takeExpiry (fits : schedulerFits s.scheduler) (room : s.scheduler.pendingSlices < 15) :
    schedulerFits (takeExpiry s).scheduler := by
  rw [takeExpiry_scheduler]
  exact ⟨fits.1, room⟩

theorem schedulerFits_releaseHeld (fits : schedulerFits s.scheduler) : schedulerFits (releaseHeld s).scheduler := by
  obtain ⟨-, room, eq⟩ | ⟨-, eq⟩ := releaseHeld_cases (s := s) <;> rw [eq]
  · exact schedulerFits_takeExpiry fits room
  · exact fits

theorem schedulerFits_advanceScan (c : ScanCursor) (fits : schedulerFits s.scheduler) :
    schedulerFits (advanceScan c s).scheduler := by
  obtain ⟨-, eq⟩ | ⟨-, -, eq⟩ | ⟨-, -, eq⟩ := advanceScan_cases (s := s) c <;> rw [eq]
  · exact fits
  · exact fits
  · rw [endScan_eq, testForced_eq]
    exact schedulerFits_releaseHeld (s := scanEnded c s) ⟨fits.1, (Nat.sub_le _ 1).trans fits.2⟩

theorem schedulerFits_visitRow (c : ScanCursor) (fits : schedulerFits s.scheduler) :
    schedulerFits (visitRow c s).scheduler := by
  obtain ⟨_, _, aged⟩ := ageDemotion_eq (s := s) c.visited
  obtain ⟨-, -, -, eq⟩ | ⟨-, -, room, eq⟩ | ⟨-, eq⟩ := visitRow_cases (s := s) c <;> rw [eq, aged]
  · exact fits
  · refine schedulerFits_advanceScan c ⟨?_, fits.2⟩
    rw [appendDue_scheduler]
    simp only [List.length_append, List.length_singleton]
    omega
  · exact schedulerFits_advanceScan c fits

theorem schedulerFits_arbitrate (fits : schedulerFits s.scheduler) : schedulerFits (arbitrate s).scheduler := by
  obtain ⟨eq, -⟩ | ⟨claim, op, -, -, granted, eq⟩ := arbitrate_grants (s := s) <;> rw [eq]
  · exact fits
  · refine (grantClaim_departure granted).sheds.fits ?_
    cases claim with
    | refresh urgent =>
      obtain ⟨e, rest, head, -⟩ := refresh_descriptor granted
      rw [claimantEffects, takeRefreshHead_eq head]
      refine (departDue_departure e.row).sheds.fits (s := { s with scheduler := { s.scheduler with refreshing := true } }) ?_
      exact fits
    | request =>
      obtain ⟨q, rest, head, -⟩ := request_descriptor granted
      rw [claimantEffects, fillAccessRecord_eq head]
      exact fits
    | close d => exact fits
    | copy => exact fits
    | probe k => exact fits
    | init => exact fits

/-! ### The supervisor and the log -/

/-- What a reading, a timeout, a pass start or a scan may do to the contexts, the log and the supervisor. -/
structure Watches (s t : State) : Prop where
  calm : Calms s t
  fits : supervisorFits s.supervisor → supervisorFits t.supervisor

theorem Watches.of_eq (probes : t.probes = s.probes) (supervisor : t.supervisor = s.supervisor) : Watches s t :=
  ⟨.of_probes_eq probes, by rw [supervisor]; exact id⟩

theorem Watches.trans (first : Watches s t) (second : Watches t u) : Watches s u :=
  ⟨first.calm.trans second.calm, fun fits => second.fits (first.fits fits)⟩

theorem enterThermal_watches (new : ThermalState) : Watches s (enterThermal new s) := by
  obtain ⟨-, h⟩ | ⟨-, -, h⟩ | ⟨-, -, h⟩ := enterThermal_cases s new <;> rw [h]
  · exact .of_eq rfl rfl
  · exact ⟨.of_probes_eq rfl, id⟩
  · have entered : Watches s (raiseEvent .thermalChange { s with supervisor := { s.supervisor with thermal := new } }) :=
      ⟨.of_probes_eq rfl, id⟩
    exact entered.trans ⟨(abortAll_calms .thermal).1, by rw [(abortAll_probeChange _ _).supervisor]; exact id⟩

theorem readingArrives_watches (reading : Int) : Watches s (readingArrives reading s) := by
  unfold readingArrives
  dsimp only
  generalize joined : (if s.supervisor.window.length < Config.windowReadings then s.supervisor.window
    else s.supervisor.window.drop 1) ++ [reading] = window
  have arrived : Watches s { s with supervisor := { s.supervisor with window := window, lastReading := some reading } } := by
    refine ⟨.of_probes_eq rfl, fun fits => ⟨?_, fits.2⟩⟩
    have short := fits.1
    rw [← joined]
    unfold Config.windowReadings
    split_ifs <;> simp <;> omega
  split_ifs
  · exact arrived
  · exact arrived.trans (enterThermal_watches _)

theorem testSensorTimeout_watches : Watches s (testSensorTimeout s) := by
  unfold testSensorTimeout sensorTimeout
  split_ifs
  · have emptied : Watches s { s with supervisor := { s.supervisor with window := [], stale := 0 } } :=
      ⟨.of_probes_eq rfl, fun _ => ⟨Nat.zero_le _, Nat.zero_le _⟩⟩
    exact (emptied.trans (enterThermal_watches .hot)).trans (.of_eq rfl rfl)
  · exact .of_eq rfl rfl

/-- A pass start in EXTERNAL mode counts up to the timeout, which returns the count to 0 (R159). -/
theorem passStart_watches : Watches s (passStart s) := by
  unfold passStart supervisorPassStart
  dsimp only
  generalize entered : Scheduler.mk .. = scheduler
  split
  · rename_i external
    unfold testSensorTimeout sensorTimeout Config.staleLimit
    split
    · have emptied : Watches s { s with
          scheduler := scheduler, supervisor := { s.supervisor with window := [], stale := 0 } } :=
        ⟨.of_probes_eq rfl, fun _ => ⟨Nat.zero_le _, Nat.zero_le _⟩⟩
      exact (emptied.trans (enterThermal_watches .hot)).trans (.of_eq rfl rfl)
    · rename_i early
      refine ⟨.of_probes_eq rfl, fun fits => ⟨fits.1, ?_⟩⟩
      simp only [external, Bool.true_and, decide_eq_true_eq] at early
      exact Nat.le_of_lt_succ (Nat.not_le.mp early)
  · split
    · exact ⟨.of_probes_eq rfl, id⟩
    · exact .of_eq rfl rfl

theorem takeExpiry_watches : Watches s (takeExpiry s) := by
  have pass : Watches s (expiryPass s) := by
    unfold expiryPass
    dsimp only
    split
    · have advanced : Watches s { s with
          scheduler := { s.scheduler with serial := (s.scheduler.serial + 1) % 65536 } } := .of_eq rfl rfl
      exact advanced.trans passStart_watches
    · exact .of_eq rfl rfl
  refine pass.trans (.of_eq ?_ ?_) <;> rw [takeExpiry_eq_expiryPass]

theorem releaseHeld_watches : Watches s (releaseHeld s) := by
  obtain ⟨-, -, eq⟩ | ⟨-, eq⟩ := releaseHeld_cases (s := s) <;> rw [eq]
  · exact takeExpiry_watches.trans (.of_eq rfl rfl)
  · exact .of_eq rfl rfl

theorem advanceScan_watches (c : ScanCursor) : Watches s (advanceScan c s) := by
  obtain ⟨-, eq⟩ | ⟨-, -, eq⟩ | ⟨-, -, eq⟩ := advanceScan_cases (s := s) c <;> rw [eq]
  · exact .of_eq rfl rfl
  · exact .of_eq rfl rfl
  · rw [endScan_eq, testForced_eq]
    have ended : Watches s (scanEnded c s) := .of_eq rfl rfl
    exact (ended.trans releaseHeld_watches).trans (.of_eq rfl rfl)

theorem visitRow_watches (c : ScanCursor) : Watches s (visitRow c s) := by
  obtain ⟨_, _, aged⟩ := ageDemotion_eq (s := s) c.visited
  obtain ⟨-, -, -, eq⟩ | ⟨-, -, -, eq⟩ | ⟨-, eq⟩ := visitRow_cases (s := s) c <;> rw [eq, aged]
  · exact .of_eq rfl rfl
  · exact Watches.trans (.of_eq (by rfl) (by rfl)) (advanceScan_watches c)
  · exact Watches.trans (.of_eq (by rfl) (by rfl)) (advanceScan_watches c)

/-! ### The consecutive-host-grant count (R29) -/

/-- At a count of 8 the request claim stands behind every maintenance claim, so that its grant finds none waiting (R30). -/
theorem not_maintenanceWaiting_of_request (limit : s.port.hostGrants = 8) (chosen : chooseClaim s = some .request) :
    maintenanceWaiting s = false := by
  obtain ⟨-, may, least⟩ := (arbiterChoosesFirstInOrder s .request).mp chosen
  by_contra waiting
  simp only [maintenanceWaiting, Bool.not_eq_false, Bool.or_eq_true, List.any_eq_true] at waiting
  obtain copy | ⟨k, -, probe⟩ := waiting
  · have := least .copy copy may
    simp [Claim.rank, limit] at this
  · have := least (.probe k) probe may
    simp only [Claim.rank, limit, if_true] at this
    omega

theorem grantCount_le (fits : s.port.hostGrants ≤ 8) {claim : Claim} (chosen : chooseClaim s = some claim) :
    grantCount s claim ≤ 8 := by
  cases claim with
  | request =>
    simp only [grantCount]
    split_ifs with waiting
    · by_contra above
      have := not_maintenanceWaiting_of_request (by omega) chosen
      rw [this] at waiting
      cases waiting
    · exact Nat.zero_le _
  | copy => exact Nat.zero_le _
  | probe k => exact Nat.zero_le _
  | close d => exact fits
  | refresh urgent => exact fits
  | init => exact fits

/-! ### The law -/

/-- With the port and the request engine as they were. -/
theorem capacityLaw_of_parts (law : capacityLaw s) (requests : t.requests = s.requests) (port : t.port = s.port)
    (scheduler : schedulerFits s.scheduler → schedulerFits t.scheduler) (watches : Watches s t) : capacityLaw t := by
  rw [capacityLaw_iff] at *
  obtain ⟨queues, slices, log, supervisor, grants⟩ := law
  exact ⟨by rwa [requests], scheduler slices, watches.calm.log log, watches.fits supervisor, by rwa [port]⟩

theorem capacityLaw_of_job (law : capacityLaw s) (change : JobChange s t) (sheds : Sheds s t) (calm : Calms s t) :
    capacityLaw t :=
  capacityLaw_of_parts law change.requests change.port sheds.fits ⟨calm, by rw [change.supervisor]; exact id⟩

theorem capacityLaw_of_pass (law : capacityLaw s) (change : PassChange s t)
    (scheduler : schedulerFits s.scheduler → schedulerFits t.scheduler) (watches : Watches s t) : capacityLaw t :=
  capacityLaw_of_parts law change.requests change.port scheduler watches

/-- With all but the request engine as it was. -/
theorem capacityLaw_of_requests (law : capacityLaw s) (requests : requestsFit s.requests → requestsFit t.requests)
    (scheduler : t.scheduler = s.scheduler) (probes : t.probes = s.probes) (supervisor : t.supervisor = s.supervisor)
    (port : t.port.hostGrants = s.port.hostGrants) : capacityLaw t := by
  rw [capacityLaw_iff] at *
  rw [scheduler, probes, supervisor, port]
  exact ⟨requests law.1, law.2⟩

theorem capacityLaw_checkHead (law : capacityLaw s) : capacityLaw (checkHead s) :=
  capacityLaw_of_requests law requestsFit_checkHead (by simp) (by rw [checkHead_frame]) (by rw [checkHead_frame]) (by simp)

theorem requestsFit_acceptPost (q : Request) (room : s.requests.requests.length < 16) (fits : requestsFit s.requests) :
    requestsFit (acceptPost q s).requests := by
  obtain ⟨queue, completions, staging, busy⟩ := fits
  refine ⟨?_, completions, (List.drop_sublist _ _).length_le.trans staging, busy⟩
  simp only [acceptPost, List.length_append, List.length_singleton]
  omega

theorem capacityLaw_acceptPost (q : Request) (room : s.requests.requests.length < 16) (law : capacityLaw s) :
    capacityLaw (acceptPost q s) :=
  capacityLaw_of_requests law (requestsFit_acceptPost q room) rfl rfl rfl rfl

theorem capacityLaw_accepted (law : capacityLaw s) (accepted : Accepted s t) : capacityLaw t := by
  cases accepted with
  | probeStart o mode pattern k i step free cool idle unused => exact law
  | probeAbort k running =>
    have change := abortContext_probeChange s .host k
    exact capacityLaw_of_job law change.job change.sheds (abortContext_calms .host k).1
  | retire home i free single unused => exact law
  | recordRead r => exact law
  | recordWrite o status margin writable ordinary free consistent unused =>
    have sheds := writeRecord_sheds s o status
    obtain ⟨v, change, -, -, eq⟩ := writeRecord_jobChange (s := s) o status
    have probes : (writeRecord o status s).probes = s.probes := by
      unfold writeRecord
      split_ifs
      · exact (retireRecord_probes o.row o.spare).trans (setRedirect_probes _ _ _)
      · rfl
    refine capacityLaw_of_parts law ?_ ?_ sheds.fits ⟨.of_probes_eq probes, ?_⟩ <;> rw [eq]
    · exact change.requests
    · exact change.port
    · have kept := change.supervisor
      exact fun fits => by rw [← kept] at fits; exact fits
  | logRead w => exact law
  | logPop e rest head =>
    have change := serveWaiting_probeChange { s with probes := { s.probes with log := rest } }
    refine capacityLaw_of_job (s := { s with probes := { s.probes with log := rest } }) ?_ change.job change.sheds
      serveWaiting_calms
    rw [capacityLaw_iff] at law ⊢
    obtain ⟨queues, slices, log, others⟩ := law
    exact ⟨queues, slices, by rw [head] at log; exact Nat.le_of_succ_le log, others⟩
  | tempSupply reading =>
    have kept := capacityLaw_of_pass law (readingArrives_passChange s reading)
      (by rw [(readingArrives_keepsScheduler reading).1]; exact id) (readingArrives_watches reading)
    rw [capacityLaw_iff] at kept ⊢
    obtain ⟨queues, slices, log, supervisor, grants⟩ := kept
    exact ⟨queues, slices, log, ⟨supervisor.1, Nat.zero_le _⟩, grants⟩

theorem capacityLaw_arbitrated (law : capacityLaw s) (change : Arbitrated s u) : capacityLaw u := by
  cases change with
  | nothing => exact law
  | pauseExpired powerup => exact law
  | initCycle row op => exact law
  | initEnded row op => exact law
  | rowRefresh row op => exact law
  | rowClose d op => exact law
  | hostAccess decay target kind column length bytes pageOpen hit op =>
    rw [hostArrayEffect_eq]
    refine capacityLaw_of_requests (s := s) law ?_ (by simp) (by rw [endAccess_frame]; rfl) (by rw [endAccess_frame]; rfl)
      (by rw [endAccess_port]; rfl)
    exact fun fits => requestsFit_endAccess _ fits
  | failedHead => exact capacityLaw_checkHead law
  | popped c rest head =>
    refine capacityLaw_checkHead (capacityLaw_of_requests (s := s) law (fun fits => ?_) rfl rfl rfl rfl)
    obtain ⟨queue, completions, staging, room⟩ := fits
    rw [head, List.length_cons] at completions room
    exact ⟨queue, Nat.le_of_succ_le completions, staging, fun busy => Nat.lt_of_succ_lt (room busy)⟩
  | posted q ready empty =>
    exact capacityLaw_checkHead (capacityLaw_acceptPost q (by rw [empty]; exact Nat.zero_lt_succ _) law)
  | copyBurst decay source target burst op =>
    exact capacityLaw_of_job (by exact law) (copyBurstResult_jobChange _) (copyBurstResult_sheds _) copyBurstResult_calms
  | unwindEnd =>
    exact capacityLaw_of_job law (testUnwind_jobChange s) (.of_scheduler_eq (testUnwind_scheduler s))
      (.of_probes_eq testUnwind_probes)
  | patternBurst k row burst bytes op =>
    exact capacityLaw_of_job (by exact law) (patternBurstResult_probeChange _ k).job
      (patternBurstResult_probeChange _ k).sheds (patternBurstResult_calms k)
  | checkBurst decay k row burst expected differing op =>
    exact capacityLaw_of_job (by exact law) (checkBurstResult_jobChange _ k differing) (checkBurstResult_sheds _ k differing)
      (checkBurstResult_calms k differing)
  | openRowExpired d runs => exact law
  | sliceExpired room =>
    refine capacityLaw_of_parts (t := startSliceTimer (takeExpiry s)) law (takeExpiry_passChange s).requests
      (takeExpiry_passChange s).port ?_ (takeExpiry_watches.trans (.of_eq rfl rfl))
    exact fun fits => schedulerFits_takeExpiry fits room
  | sensorTimeout =>
    exact capacityLaw_of_pass law (testSensorTimeout_passChange s)
      (by rw [testSensorTimeout_keepsScheduler.1]; exact id) testSensorTimeout_watches
  | heldExpiry =>
    exact capacityLaw_of_pass law (releaseHeld_passChange s) schedulerFits_releaseHeld releaseHeld_watches
  | visit c cursor =>
    obtain ⟨records, change⟩ := visitRow_passChange s c
    exact capacityLaw_of_parts law change.requests change.port (schedulerFits_visitRow c) (visitRow_watches c)
  | forcedClear =>
    rw [testForced_eq]
    exact law
  | stretchExpired k stretch => exact law
  | conversion reading =>
    exact capacityLaw_of_pass (s := { s with supervisor := { s.supervisor with conversion := .idle } }) law
      (readingArrives_passChange _ reading) (by rw [(readingArrives_keepsScheduler reading).1]; exact id)
      (readingArrives_watches reading)
  | softReset ready =>
    rw [capacityLaw_iff] at law ⊢
    obtain ⟨-, slices, log, supervisor, grants⟩ := law
    rw [softResetEffects_requests, softResetEffects_scheduler, softResetEffects_supervisor, softResetEffects_port]
    exact ⟨⟨Nat.zero_le _, Nat.zero_le _, Nat.zero_le _, fun _ => Nat.succ_pos _⟩, slices, softResetEffects_calms.log log,
      supervisor, grants⟩
  | sensorMode external config mode legal =>
    have before : capacityLaw (sensorChanged external { s with config := config }) := by
      rw [capacityLaw_iff] at law ⊢
      obtain ⟨queues, slices, log, supervisor, grants⟩ := law
      exact ⟨queues, slices, log, ⟨Nat.zero_le _, Nat.zero_le _⟩, grants⟩
    rw [changeSensorMode_eq]
    refine capacityLaw_of_pass before (enterThermal_passChange _ .hot) ?_ (enterThermal_watches .hot)
    rw [(enterThermal_keepsScheduler .hot).1]
    exact id
  | command code t ready accepted =>
    have kept := capacityLaw_accepted (s := { s with host := { s.host with command := code } }) law accepted
    exact kept

/-- The power-on values are within every capacity. -/
theorem powerOn_fits : requestsFit RequestEngine.atReset ∧ schedulerFits Scheduler.atReset ∧
    ProbeEngine.atReset.log.length ≤ 8 ∧ supervisorFits Supervisor.atReset ∧ ArrayPort.atReset.hostGrants ≤ 8 := by
  unfold requestsFit schedulerFits supervisorFits
  decide

theorem capacityLaw_unarbitrated (law : capacityLaw s) (change : Unarbitrated s t) : capacityLaw t := by
  cases change with
  | nothing => exact law
  | time => exact law
  | asserted =>
    obtain ⟨queue, completions, staging, due, log, window, stale, grants, slices, -⟩ := law
    exact ⟨queue, completions, staging, due, log, window, stale, grants, slices, fun live => Bool.noConfusion live⟩
  | released straps =>
    exact capacityLaw_iff.mpr powerOn_fits
  | logWait =>
    have change := serveWaiting_probeChange s
    exact capacityLaw_of_job law change.job change.sheds serveWaiting_calms
  | held full => exact law
  | discarded => exact law
  | window host requests interrupt queue access completions staging =>
    refine capacityLaw_of_requests (s := s) law (fun fits => ?_) rfl rfl rfl rfl
    dsimp only
    unfold requestsFit at fits ⊢
    rw [queue, access, completions]
    refine ⟨fits.1, fits.2.1, ?_, fits.2.2.2⟩
    obtain same | ⟨-, staged⟩ := staging
    · rw [same]
      exact fits.2.2.1
    · exact staged
  | posted q ready room behind => exact capacityLaw_acceptPost q room law
  | configured config mode legal => exact law

/-- Settles O7: each queue grows where its test has found room, each count rises below its limit. -/
theorem stepKeepsCapacities : Obligations.StepKeepsCapacities := by
  intro s t law h
  refine step_keeps (premise := fun _ => True) (fun _ _ => id) (fun _ _ => id) (fun _ _ _ => capacityLaw_unarbitrated)
    (fun _ _ _ law _ => capacityLaw_arbitrated law) (fun s law => ?_) trivial law h
  rw [capacityLaw_iff] at law ⊢
  obtain ⟨queues, slices, log, supervisor, grants⟩ := law
  refine ⟨requestsFit_arbitrate queues, schedulerFits_arbitrate slices, by rwa [arbitrate_log],
    by rwa [arbitrate_supervisor], ?_⟩
  obtain ⟨eq, -⟩ | ⟨claim, op, -, chosen, granted, eq⟩ := arbitrate_grants (s := s) <;> rw [eq]
  · exact grants
  · rw [grantClaim_port granted]
    exact grantCount_le grants chosen

end Sys2Proof.Machine
end

section
/-! PROOFS. The law of probes and copies taken apart (R100, R104, R105, R112, R118): what binds each owner, a context or the
command unit, to its redirect entry and its copy job, and the log's own law. -/

namespace Sys2Proof.Machine

open Sys2Proof

variable {s t u : State}

/-! ### The redirect table -/

/-- Under the table's law an index holds an entry just where the table lists it there. -/
theorem redirectAt_eq_some_iff (law : redirectLaw s) {i : ReservedIndex} {e : RedirectEntry} :
    redirectAt s i = some e ↔ (i.val, e) ∈ s.redirects :=
  Sparse.find_eq_some_iff law.1

/-- A key of the table is a reserved index. -/
theorem redirect_key_lt (law : redirectLaw s) {p : Nat × RedirectEntry} (mem : p ∈ s.redirects) : p.1 < 8 := by
  have := law.2.1 p mem
  have := law.2.2.2
  omega

/-- Every entry listed stands at a reserved index. -/
theorem exists_index_of_mem (law : redirectLaw s) {p : Nat × RedirectEntry} (mem : p ∈ s.redirects) :
    ∃ i : ReservedIndex, i.val = p.1 ∧ redirectAt s i = some p.2 :=
  ⟨⟨p.1, redirect_key_lt law mem⟩, rfl, (redirectAt_eq_some_iff law).mpr mem⟩

theorem hasRedirect_iff (law : redirectLaw s) {r : Row} :
    hasRedirect s r = true ↔ ∃ i e, redirectAt s i = some e ∧ e.home = r := by
  simp only [hasRedirect, redirectOf, Option.isSome_map, List.find?_isSome, decide_eq_true_eq]
  constructor
  · rintro ⟨p, mem, home⟩
    obtain ⟨i, -, at_⟩ := exists_index_of_mem law mem
    exact ⟨i, p.2, at_, home⟩
  · rintro ⟨i, e, at_, home⟩
    exact ⟨(i.val, e), (redirectAt_eq_some_iff law).mp at_, home⟩

/-- Two entries of one home row are one entry (R100). -/
theorem redirect_home_inj (law : redirectLaw s) {i j : ReservedIndex} {e f : RedirectEntry}
    (first : redirectAt s i = some e) (second : redirectAt s j = some f) (home : e.home = f.home) : i = j ∧ e = f := by
  have eq := List.inj_on_of_nodup_map law.2.2.1 ((redirectAt_eq_some_iff law).mp first)
    ((redirectAt_eq_some_iff law).mp second) home
  obtain ⟨key, value⟩ := Prod.mk.injEq .. ▸ eq
  exact ⟨Fin.ext key, value⟩

/-- The table after a change at one index: the other entries as they were. -/
theorem redirectLaw_of_update {i : ReservedIndex} {x : Option RedirectEntry} (law : redirectLaw s)
    (devices : t.deviceCount = s.deviceCount) (rising : Sparse.rising t.redirects)
    (keys : ∀ p ∈ t.redirects, p.1 = i.val ∨ p ∈ s.redirects)
    (at_ : ∀ m, redirectAt t m = if m = i then x else redirectAt s m)
    (exists_ : x.isSome = true → i.val < 2 * s.deviceCount)
    (fresh : ∀ e, x = some e → ∀ m f, m ≠ i → redirectAt s m = some f → f.home ≠ e.home) : redirectLaw t := by
  have find : ∀ {p : Nat × RedirectEntry}, p ∈ t.redirects → ∃ m : ReservedIndex, m.val = p.1 ∧ redirectAt t m = some p.2 := by
    intro p mem
    have small : p.1 < 8 := by
      obtain key | old := keys p mem
      · rw [key]
        exact i.isLt
      · exact redirect_key_lt law old
    exact ⟨⟨p.1, small⟩, rfl, Sparse.find_of_mem rising mem⟩
  refine ⟨rising, fun p mem => ?_, ?_, by rw [devices]; exact law.2.2.2⟩
  · rw [devices]
    obtain ⟨m, key, found⟩ := find mem
    rw [at_] at found
    split_ifs at found with h
    · rw [← key, h]
      exact exists_ (by rw [found]; rfl)
    · exact key ▸ law.2.1 (m.val, p.2) ((redirectAt_eq_some_iff law).mp found)
  · refine List.Nodup.map_on (fun p hp q hq home => ?_) (rising.imp fun lt eq => by rw [eq] at lt; exact lt.ne rfl)
    obtain ⟨m, keyM, foundM⟩ := find hp
    obtain ⟨n, keyN, foundN⟩ := find hq
    suffices m = n by
      subst this
      rw [foundM, Option.some.injEq] at foundN
      exact Prod.ext (keyM.symm.trans keyN) foundN
    rw [at_] at foundM foundN
    split_ifs at foundM foundN with hm hn hn
    · rw [hm, hn]
    · exact absurd home.symm (fresh _ foundM n q.2 hn foundN)
    · exact absurd home (fresh _ foundN m p.2 hm foundM)
    · exact (redirect_home_inj law foundM foundN home).1

theorem redirectLaw_congr (redirects : t.redirects = s.redirects) (devices : t.deviceCount = s.deviceCount)
    (law : redirectLaw s) : redirectLaw t := by
  unfold redirectLaw at *
  rwa [redirects, devices]

/-- A new entry at a free index for a row that has none. -/
theorem redirectLaw_insert {i : ReservedIndex} {e : RedirectEntry} (law : redirectLaw s)
    (redirects : t.redirects = Sparse.insert i.val e s.redirects) (devices : t.deviceCount = s.deviceCount)
    (present : i.val < 2 * s.deviceCount)
    (fresh : ∀ m f, m ≠ i → redirectAt s m = some f → f.home ≠ e.home) : redirectLaw t := by
  refine redirectLaw_of_update (i := i) (x := some e) law devices (by rw [redirects]; exact Sparse.rising_insert e law.1) ?_ ?_
    (fun _ => present) (fun f eq => by cases eq; exact fresh)
  · intro p mem
    rw [redirects] at mem
    obtain rfl | old := Sparse.mem_insert mem
    · exact .inl rfl
    · exact .inr old
  · intro m
    rw [redirectAt_congr (s := setRedirect i e s) redirects, redirectAt_setRedirect]

theorem redirectLaw_erase (i : ReservedIndex) (law : redirectLaw s)
    (redirects : t.redirects = Sparse.erase i.val s.redirects) (devices : t.deviceCount = s.deviceCount) :
    redirectLaw t := by
  refine redirectLaw_of_update (i := i) (x := none) law devices (by rw [redirects]; exact Sparse.rising_erase _ law.1) ?_ ?_
    (fun h => Bool.noConfusion h) (fun e h => by cases h)
  · intro p mem
    rw [redirects] at mem
    exact .inr (Sparse.mem_erase.mp mem).1
  · intro m
    rw [redirectAt_congr (s := removeRedirect i s) redirects, redirectAt_removeRedirect]

/-- A change of an entry's state and owner keeps its home row. -/
theorem redirectLaw_changeRedirect {i : ReservedIndex} {state : RedirectState} {owner : Owner} (law : redirectLaw s)
    (redirects : t.redirects = (changeRedirect i state owner s).redirects) (devices : t.deviceCount = s.deviceCount) :
    redirectLaw t := by
  cases found : redirectAt s i with
  | none =>
    rw [changeRedirect, found] at redirects
    exact redirectLaw_congr redirects devices law
  | some e =>
    rw [changeRedirect, found] at redirects
    refine redirectLaw_insert law redirects devices (law.2.1 _ ((redirectAt_eq_some_iff law).mp found)) ?_
    intro m f other at_ home
    exact other (redirect_home_inj law at_ found home).1

/-! ### What binds an owner -/

/-- The copy jobs an owner has queued. -/
def jobsOf (s : State) (o : Owner) : List CopyJob := s.copy.queue.filter (fun j => j.owner == o)

/-- The state of the PARK entry a context in a state owns, if it owns one. -/
def ContextState.park : ContextState → Option RedirectState
  | .parking => some .parkCopying
  | .writing | .stretch | .checking => some .parkHeld
  | .restoring => some .parkRestoring
  | .idle | .done => none

theorem ContextState.active_iff (c : ContextState) : c.active = true ↔ c.park = some c.entryState := by
  cases c <;> decide

theorem ContextState.active_eq (c : ContextState) : c.active = c.park.isSome := by
  cases c <;> rfl

/-- The copy jobs of a context, by its PARK entry: one while it is copied or restored, none otherwise (R105). -/
def contextJobs (k : ContextId) (c : ProbeContext) (progress : Nat) : List CopyJob :=
  match c.state.park with
  | some .parkCopying =>
    [{ kind := .park, home := c.target, index := c.parkIndex, owner := .context k, progress := progress }]
  | some .parkRestoring =>
    [{ kind := .restore, home := c.target, index := c.parkIndex, owner := .context k, progress := progress }]
  | some .parkHeld | some .spareCopying | some .spareActive | none => []

/-- The copy jobs of the command unit: the RETIRE of the retire outstanding (R112). -/
def retireJobs (retire : Option (Row × ReservedIndex)) (progress : Nat) : List CopyJob :=
  match retire with
  | none => []
  | some (home, i) => [{ kind := .retire, home := home, index := i, owner := .command, progress := progress }]

/-- A context's entry and job are those its state gives it (R105, R118). -/
structure ContextBound (s : State) (k : ContextId) : Prop where
  entry : ∀ state, (contextOf s k).state.park = some state → redirectAt s (contextOf s k).parkIndex =
    some { home := (contextOf s k).target, state := state, owner := .context k }
  owned : ∀ i e, redirectAt s i = some e → e.owner = .context k →
    (contextOf s k).state.park.isSome = true ∧ (contextOf s k).parkIndex = i
  jobs : ∃ progress < 8, jobsOf s (.context k) = contextJobs k (contextOf s k) progress

/-- The command unit's entries and job are those of its spares and of the retire outstanding (R112). -/
structure CommandBound (s : State) : Prop where
  entry : ∀ home i, s.copy.retire = some (home, i) →
    redirectAt s i = some { home := home, state := .spareCopying, owner := .command }
  owned : ∀ i e, redirectAt s i = some e → e.owner = .command →
    e.state.isPark = false ∧ (e.state = .spareCopying ↔ s.copy.retire = some (e.home, i))
  jobs : ∃ progress < 8, jobsOf s .command = retireJobs s.copy.retire progress

/-- What binds every owner. -/
structure Bound (s : State) : Prop where
  table : redirectLaw s
  context : ∀ k, ContextBound s k
  command : CommandBound s

theorem contextJobs_length (k : ContextId) (c : ProbeContext) (progress : Nat) :
    (contextJobs k c progress).length = c.state.jobs := by
  unfold contextJobs
  cases c.state <;> rfl

/-- A context's jobs are as listed just where it has the right number and each of them serves it (R104, R105). -/
theorem contextJobs_iff (k : ContextId) : (∃ progress < 8, jobsOf s (.context k) = contextJobs k (contextOf s k) progress) ↔
    (∀ j ∈ s.copy.queue, j.owner = .context k → jobServes s j) ∧
      s.copy.queue.countP (fun j => j.owner == .context k) = (contextOf s k).state.jobs := by
  have serves : ∀ j, j.owner = .context k → (jobServes s j ↔ j.progress < 8 ∧
      j.kind = (contextOf s k).state.jobKind ∧ (contextOf s k).state.jobs = 1 ∧ j.home = (contextOf s k).target ∧
      j.index = (contextOf s k).parkIndex) := fun j owner => by
    rw [jobServes, owner]
  have mem : ∀ j, j ∈ jobsOf s (.context k) ↔ j ∈ s.copy.queue ∧ j.owner = .context k := fun j => by
    simp [jobsOf]
  rw [List.countP_eq_length_filter]
  change _ ↔ _ ∧ (jobsOf s (.context k)).length = _
  constructor
  · rintro ⟨progress, small, eq⟩
    refine ⟨fun j queued owner => ?_, by rw [eq, contextJobs_length]⟩
    have listed := (mem j).mpr ⟨queued, owner⟩
    rw [eq] at listed
    rw [serves j owner]
    unfold contextJobs at listed
    cases state : (contextOf s k).state <;> simp [state, ContextState.park] at listed <;> subst listed <;>
      simp [small, ContextState.jobKind, ContextState.jobs]
  · rintro ⟨all, count⟩
    unfold contextJobs
    cases state : (contextOf s k).state <;> rw [state] at count
    case parking | restoring =>
      obtain ⟨j, eq⟩ := List.length_eq_one_iff.mp count
      have listed := (mem j).mp (by rw [eq]; exact List.mem_singleton_self j)
      obtain ⟨small, kind, -, home, index⟩ := (serves j listed.2).mp (all j listed.1 listed.2)
      refine ⟨j.progress, small, eq.trans ?_⟩
      rw [state] at kind
      obtain ⟨_, _, _, _, _⟩ := j
      simp_all [ContextState.jobKind, ContextState.park]
    all_goals exact ⟨0, by omega, List.length_eq_zero_iff.mp count⟩

theorem retireJobs_iff : (∃ progress < 8, jobsOf s .command = retireJobs s.copy.retire progress) ↔
    (∀ j ∈ s.copy.queue, j.owner = .command → jobServes s j) ∧
      s.copy.queue.countP (fun j => j.owner == .command) = (if s.copy.retire.isSome then 1 else 0) := by
  have serves : ∀ j, j.owner = .command → (jobServes s j ↔ j.progress < 8 ∧ j.kind = .retire ∧
      s.copy.retire = some (j.home, j.index)) := fun j owner => by
    rw [jobServes, owner]
  have mem : ∀ j, j ∈ jobsOf s .command ↔ j ∈ s.copy.queue ∧ j.owner = .command := fun j => by
    simp [jobsOf]
  rw [List.countP_eq_length_filter]
  change _ ↔ _ ∧ (jobsOf s .command).length = _
  unfold retireJobs
  cases retire : s.copy.retire with
  | none =>
    constructor
    · rintro ⟨progress, -, eq⟩
      exact ⟨fun j queued owner => by simpa [eq] using (mem j).mpr ⟨queued, owner⟩, by rw [eq]; rfl⟩
    · exact fun ⟨_, count⟩ => ⟨0, by omega, List.length_eq_zero_iff.mp count⟩
  | some pair =>
    obtain ⟨home, i⟩ := pair
    constructor
    · rintro ⟨progress, small, eq⟩
      refine ⟨fun j queued owner => ?_, by rw [eq]; rfl⟩
      have listed := (mem j).mpr ⟨queued, owner⟩
      rw [eq, List.mem_singleton] at listed
      rw [serves j owner, listed, retire]
      exact ⟨small, rfl, rfl⟩
    · rintro ⟨all, count⟩
      obtain ⟨j, eq⟩ := List.length_eq_one_iff.mp count
      have listed := (mem j).mp (by rw [eq]; exact List.mem_singleton_self j)
      obtain ⟨small, kind, outstanding⟩ := (serves j listed.2).mp (all j listed.1 listed.2)
      refine ⟨j.progress, small, eq.trans ?_⟩
      rw [retire] at outstanding
      obtain ⟨_, _, _, _, _⟩ := j
      simp_all

/-- The law of probes and copies is the log's law and what binds each owner. -/
theorem probeLaw_iff : probeLaw s ↔ logLaw s ∧ Bound s := by
  constructor
  · rintro ⟨table, log, entry, owned, outstanding, serves, counts, count⟩
    refine ⟨log, table, fun k => ⟨fun state park => ?_, fun i e at_ owner => ?_, ?_⟩, outstanding,
      fun i e at_ owner => ?_, ?_⟩
    · have active : (contextOf s k).state.active = true := by rw [ContextState.active_eq, park]; rfl
      rw [entry k active, Option.some.inj (((ContextState.active_iff _).mp active).symm.trans park)]
    · have := owned i e at_
      rw [owner] at this
      rwa [← ContextState.active_eq]
    · exact (contextJobs_iff k).mpr ⟨fun j queued _ => serves j queued, counts k⟩
    · have := owned i e at_
      rwa [owner] at this
    · exact retireJobs_iff.mpr ⟨fun j queued _ => serves j queued, count⟩
  · rintro ⟨log, table, context, command⟩
    refine ⟨table, log, fun k active => (context k).entry _ ((ContextState.active_iff _).mp active), fun i e at_ => ?_, command.entry, fun j queued => ?_,
      fun k => ((contextJobs_iff k).mp (context k).jobs).2, (retireJobs_iff.mp command.jobs).2⟩
    · cases owner : e.owner with
      | context k =>
        have := (context k).owned i e at_ owner
        rwa [← ContextState.active_eq] at this
      | command => exact command.owned i e at_ owner
    · cases owner : j.owner with
      | context k => exact ((contextJobs_iff k).mp (context k).jobs).1 j queued owner
      | command => exact (retireJobs_iff.mp command.jobs).1 j queued owner

end Sys2Proof.Machine
end

section
/-! PROOFS. The contexts and the log (R126, R147): every operation keeps the law of the log. -/

namespace Sys2Proof.Machine

open Sys2Proof

variable {s t u : State}

theorem logLaw_of_probes_eq (h : t.probes = s.probes) (law : logLaw s) : logLaw t := by
  unfold logLaw at *
  simp only [contextOf_congr_probes h, h]
  exact law

/-- In a state other than STRETCH the timer of a context does not run. -/
theorem timer_stopped (law : logLaw s) {k : ContextId} (state : (contextOf s k).state ≠ .stretch) :
    (contextOf s k).stretchTimer.isRunning = false := by
  obtain ⟨-, -, -, -, timer⟩ := law
  by_contra running
  exact state ((timer k).mp (by simpa using running))

/-- A change of one context that neither leaves nor enters DONE, its timer running just in STRETCH. -/
theorem logLaw_of_one {k : ContextId} {c : ProbeContext} (at_ : ∀ m, contextOf t m = if m = k then c else contextOf s m)
    (log : t.probes.log = s.probes.log) (waiting : t.probes.waiting = s.probes.waiting)
    (old : (contextOf s k).state ≠ .done) (new : c.state ≠ .done)
    (timer : c.stretchTimer.isRunning = true ↔ c.state = .stretch) (law : logLaw s) : logLaw t := by
  obtain ⟨nodup, waits, full, fits, timers⟩ := law
  unfold logLaw
  rw [log, waiting]
  refine ⟨nodup, fun m => ?_, full, fits, fun m => ?_⟩ <;> rw [at_] <;> split_ifs with h
  · rw [h]
    exact ⟨fun done => absurd done new, fun wait => absurd ((waits k).mpr wait) old⟩
  · exact waits m
  · exact timer
  · exact timers m

theorem logLaw_setContext {k : ContextId} {c : ProbeContext} (old : (contextOf s k).state ≠ .done)
    (new : c.state ≠ .done) (timer : c.stretchTimer.isRunning = true ↔ c.state = .stretch) (law : logLaw s) :
    logLaw (setContext k c s) :=
  logLaw_of_one (contextOf_setContext s k · c) rfl rfl old new timer law

/-- A context that keeps its state and its timer. -/
theorem logLaw_setContext_same {k : ContextId} {c : ProbeContext} (state : c.state = (contextOf s k).state)
    (timer : c.stretchTimer = (contextOf s k).stretchTimer) (law : logLaw s) : logLaw (setContext k c s) := by
  have waiting : (setContext k c s).probes.waiting = s.probes.waiting := rfl
  have log : (setContext k c s).probes.log = s.probes.log := rfl
  have at_ : ∀ m, (contextOf (setContext k c s) m).state = (contextOf s m).state ∧
      (contextOf (setContext k c s) m).stretchTimer = (contextOf s m).stretchTimer := fun m => by
    rw [contextOf_setContext]
    split_ifs with h
    · rw [h]
      exact ⟨state, timer⟩
    · exact ⟨rfl, rfl⟩
  unfold logLaw at *
  simp only [log, waiting, at_]
  exact law

/-- A context that ends logs its entry or waits behind a full log (R147). -/
theorem logLaw_enterDone (k : ContextId) (outcome : PendingOutcome) (old : (contextOf s k).state ≠ .done)
    (stage : (contextOf s k).state ≠ .stretch) (law : logLaw s) : logLaw (enterDone k outcome s) := by
  have stopped := timer_stopped law stage
  obtain ⟨nodup, waits, full, fits, timers⟩ := law
  have absent : k ∉ s.probes.waiting := fun wait => old ((waits k).mpr wait)
  have timer : ∀ m, (contextOf (enterDone k outcome s) m).stretchTimer.isRunning = true ↔
      (contextOf (enterDone k outcome s) m).state = .stretch := fun m => by
    rw [contextOf_enterDone]
    split_ifs
    · obtain h | h := endState_cases (s := s) <;> simp [stopped, h]
    · exact timers m
  by_cases room : s.probes.log.length < 8
  · have idle : endState s = .idle := if_pos room
    have none : s.probes.waiting = [] := by
      by_contra some
      have := full some
      omega
    refine ⟨?_, fun m => ?_, ?_, ?_, timer⟩
    · rw [enterDone_waiting, if_pos room]
      exact nodup
    · rw [enterDone_waiting, if_pos room, contextOf_enterDone]
      split_ifs with h
      · rw [h]
        simp [idle, absent]
      · exact waits m
    · rw [enterDone_waiting, if_pos room]
      exact fun some => absurd none some
    · rw [enterDone_log, if_pos room, List.length_append]
      exact room
  · have done : endState s = .done := if_neg room
    refine ⟨?_, fun m => ?_, ?_, ?_, timer⟩
    · rw [enterDone_waiting, if_neg room]
      exact List.nodup_append.mpr ⟨nodup, List.nodup_singleton k, fun a ha b hb => by
        rw [List.mem_singleton.mp hb]
        rintro rfl
        exact absent ha⟩
    · rw [enterDone_waiting, if_neg room, contextOf_enterDone]
      split_ifs with h
      · rw [h]
        simp [done]
      · rw [waits m, List.mem_append, List.mem_singleton]
        simp [h]
    · rw [enterDone_log, if_neg room]
      exact fun _ => by omega
    · rw [enterDone_log, if_neg room]
      exact fits

/-- While contexts wait the log is full, so that LOG_WAIT_APPEND finds nothing to do (R147). -/
theorem serveWaiting_of_law (law : logLaw s) : serveWaiting s = s := by
  obtain ⟨-, -, full, -⟩ := law
  unfold serveWaiting
  split
  · rfl
  · rename_i wait
    have := full (by rw [wait]; exact List.cons_ne_nil _ _)
    simp [logRoom, Config.logEntries, this]

/-- A pop makes room, which the first context that waits takes (R151). -/
theorem logLaw_logPop {e : LogEntry} {rest : List LogEntry} (head : s.probes.log = e :: rest) (law : logLaw s) :
    logLaw (serveWaiting { s with probes := { s.probes with log := rest } }) := by
  obtain ⟨nodup, waits, full, fits, timers⟩ := law
  rw [head, List.length_cons] at full fits
  unfold serveWaiting
  split
  · rename_i none
    change s.probes.waiting = [] at none
    refine ⟨nodup, waits, fun some => absurd none some, Nat.le_of_succ_le fits, timers⟩
  · rename_i k behind queue
    change s.probes.waiting = k :: behind at queue
    have count : rest.length = 7 := by
      have := full (by rw [queue]; exact List.cons_ne_nil _ _)
      omega
    rw [if_pos (by simp [logRoom, Config.logEntries, count])]
    have at_ : ∀ m, contextOf (appendLog k { s with probes := { s.probes with log := rest, waiting := behind } }) m =
        if m = k then { contextOf s k with state := .idle } else contextOf s m := fun m => by
      rw [appendLog_eq]
      by_cases h : m = k <;> simp [contextOf, Quad.get_set, h]
    have log : (appendLog k { s with probes := { s.probes with log := rest, waiting := behind } }).probes.log.length = 8 := by
      rw [appendLog_eq]
      simp [count]
    have waiting : (appendLog k { s with probes := { s.probes with log := rest, waiting := behind } }).probes.waiting =
        behind := rfl
    have state : (contextOf s k).state = .done := (waits k).mpr (by rw [queue]; exact List.mem_cons_self ..)
    rw [queue] at nodup waits
    obtain ⟨absent, nodup⟩ := List.nodup_cons.mp nodup
    refine ⟨by rwa [waiting], fun m => ?_, fun _ => log, log.le, fun m => ?_⟩ <;> rw [at_]
    · rw [waiting]
      split_ifs with h
      · rw [h]
        simp [absent]
      · rw [waits m, List.mem_cons]
        simp [h]
    · split_ifs with h
      · have := timers k
        simpa [state] using this
      · exact timers m

/-! ### The operations -/

theorem logLaw_beginRestore (k : ContextId) (old : (contextOf s k).state ≠ .done)
    (stopped : (contextOf s k).stretchTimer.isRunning = false) (law : logLaw s) : logLaw (beginRestore k s) :=
  logLaw_of_one (contextOf_beginRestore k) (by rw [beginRestore_eq]) (by rw [beginRestore_eq]) old nofun
    (by simp [stopped]) law

/-- An abort of a context that runs stops its timer and sends it to RESTORING (R136). -/
theorem contextOf_abortRunning (reason : AbortReason) (k m : ContextId) : contextOf (abortRunning reason k s) m =
    if m = k then { contextOf s k with abortReason := some reason, stretchTimer := .stopped, state := .restoring }
    else contextOf s m := by
  unfold abortRunning
  rw [contextOf_beginRestore, contextOf_setContext_same, contextOf_setContext]
  split_ifs <;> rfl

theorem abortRunning_log (reason : AbortReason) (k : ContextId) :
    (abortRunning reason k s).probes.log = s.probes.log ∧ (abortRunning reason k s).probes.waiting = s.probes.waiting := by
  unfold abortRunning
  rw [beginRestore_eq]
  exact ⟨rfl, rfl⟩

/-- An abort by the host or by heat (R135, R136). -/
theorem logLaw_abortContext (reason : AbortReason) (k : ContextId) (law : logLaw s) (kept : reason ≠ .reset) :
    logLaw (abortContext reason k s) := by
  have running : (contextOf s k).state ≠ .done → logLaw (abortRunning reason k s) := fun old =>
    logLaw_of_one (contextOf_abortRunning reason k) (abortRunning_log reason k).1 (abortRunning_log reason k).2 old nofun
      (by simp [Timer.isRunning]) law
  unfold abortContext
  split
  · rename_i parking
    have stopped := timer_stopped law (k := k) (by rw [parking]; nofun)
    have abandoned : logLaw (setContext k { contextOf (abandonJob (isParkOf k) s) k with abortReason := some reason }
        (abandonJob (isParkOf k) s)) :=
      logLaw_setContext_same rfl rfl (logLaw_of_probes_eq (abandonJob_probes _) law)
    have state : (contextOf (setContext k { contextOf (abandonJob (isParkOf k) s) k with abortReason := some reason }
        (abandonJob (isParkOf k) s)) k).state = .parking := by
      rw [contextOf_setContext_same, contextOf_congr_probes (abandonJob_probes _), parking]
    unfold abortParking
    cases reason with
    | reset => exact absurd rfl kept
    | host => exact logLaw_enterDone k _ (by rw [state]; nofun) (by rw [state]; nofun) abandoned
    | thermal => exact logLaw_enterDone k _ (by rw [state]; nofun) (by rw [state]; nofun) abandoned
  · exact running (by simp [*])
  · exact running (by simp [*])
  · exact running (by simp [*])
  · rw [if_neg kept]
    exact law
  · rw [if_neg kept]
    exact law
  · exact law

theorem logLaw_abortAll {reason : AbortReason} (kept : reason ≠ .reset) (law : logLaw s) : logLaw (abortAll reason s) := by
  unfold abortAll
  generalize allContexts = l
  induction l generalizing s with
  | nil => exact law
  | cons k rest ih => exact ih (logLaw_abortContext reason k law kept)

@[simp] theorem parkDone_waiting (k : ContextId) : (parkDone k s).probes.waiting = s.probes.waiting := by
  unfold parkDone
  dsimp only
  split
  · rw [setContext_probes, setRecord_probes, departIfQueued_probes]
  all_goals rfl

theorem logLaw_parkDone (k : ContextId) (law : logLaw s) : logLaw (parkDone k s) := by
  by_cases parking : (contextOf s k).state = .parking
  · have stopped := timer_stopped law (k := k) (by rw [parking]; nofun)
    refine logLaw_of_one (k := k) (c := { contextOf s k with
      state := .writing, prior := some (savedRecord s.scheduler.epoch (recordOf s (contextOf s k).target))
      burstsDone := 0, mismatch := 0, firstFailing := none }) (fun m => ?_) (parkDone_log k) (parkDone_waiting k)
      (by rw [parking]; nofun) nofun (by simp [stopped]) law
    rw [contextOf_parkDone]
    simp [parking]
  · have same : parkDone k s = s := by
      unfold parkDone
      dsimp only
      split
      · exact absurd ‹_› parking
      all_goals rfl
    rwa [same]

theorem logLaw_restoreDone (k : ContextId) (law : logLaw s) : logLaw (restoreDone k s) := by
  unfold restoreDone
  dsimp only
  split
  · rename_i restoring
    have ended : ∀ v : State, v.probes = s.probes → ∀ o, logLaw (enterDone k o v) := fun v probes o => by
      refine logLaw_enterDone k o ?_ ?_ (logLaw_of_probes_eq probes law) <;>
        rw [contextOf_congr_probes probes, restoring] <;> nofun
    split
    · exact ended _ (applyOutcome_probes _) _
    · have same : ∀ m, contextOf (reinstate (contextOf s k) s) m = contextOf s m :=
        contextOf_congr_probes (reinstate_probes _)
      have stopped := timer_stopped law (k := k) (by rw [restoring]; nofun)
      exact logLaw_setContext (by rw [same, restoring]; nofun) nofun (by simp [stopped])
        (logLaw_of_probes_eq (reinstate_probes _) law)
    · exact ended _ (reinstate_probes _) _
    · exact ended _ (reinstate_probes _) _
  all_goals exact law

theorem logLaw_jobDone (j : CopyJob) (law : logLaw s) : logLaw (jobDone j s) := by
  unfold jobDone
  split
  · have changed : logLaw (changeRedirect j.index .parkHeld j.owner s) := logLaw_of_probes_eq (changeRedirect_probes _ _ _) law
    cases j.owner with
    | context k => exact logLaw_parkDone k (logLaw_of_probes_eq (changeRedirect_probes _ _ _) law)
    | command => exact logLaw_of_probes_eq (changeRedirect_probes _ _ _) law
  · refine logLaw_of_probes_eq testUnwind_probes ?_
    cases j.owner with
    | context k => exact logLaw_restoreDone k (logLaw_of_probes_eq (removeRedirect_probes _ _) law)
    | command => exact logLaw_of_probes_eq (removeRedirect_probes _ _) law
  · have retired : (retireRecord j.home j.index (changeRedirect j.index .spareActive .command s)).probes = s.probes := by
      rw [retireRecord_probes, changeRedirect_probes]
    exact logLaw_of_probes_eq (s := s) retired law

theorem logLaw_copyBurstResult (law : logLaw s) : logLaw (copyBurstResult s) := by
  unfold copyBurstResult
  split
  · exact law
  · dsimp only
    split_ifs
    · exact law
    · unfold advanceJob
      split
      · exact law
      · split_ifs
        · exact law
        · exact logLaw_jobDone _ (logLaw_of_probes_eq (s := s) rfl law)

theorem logLaw_finishProbe (k : ContextId) (checking : (contextOf s k).state = .checking) (law : logLaw s) :
    logLaw (finishProbe k s) := by
  have stopped := timer_stopped law (k := k) (by rw [checking]; nofun)
  have derived : logLaw (setContext k { contextOf s k with
      outcome := some (deriveOutcome s.config.autoRetire (contextOf s k)) } s) := logLaw_setContext_same rfl rfl law
  unfold finishProbe
  dsimp only
  split_ifs
  · rw [convert_eq]
    have probes : ∀ (v : State) r i j, (retireRecord r i (changeRedirect j .spareActive .command v)).probes = v.probes :=
      fun v r i j => (retireRecord_probes r i).trans (changeRedirect_probes _ _ _)
    refine logLaw_enterDone k _ ?_ ?_ (logLaw_of_probes_eq (probes _ _ _ _) derived) <;>
      rw [contextOf_congr_probes (probes _ _ _ _), contextOf_setContext_same] <;> simp [checking]
  · exact logLaw_beginRestore k (by simp [checking]) (by simpa using stopped) derived

theorem logLaw_checkBurstResult (k : ContextId) (differing : List Nat) (law : logLaw s) :
    logLaw (checkBurstResult k differing s) := by
  unfold checkBurstResult
  split
  · rename_i checking
    dsimp only
    have counted : logLaw (setContext k (countBurst differing (contextOf s k)) s) := logLaw_setContext_same rfl rfl law
    have still : (contextOf (setContext k (countBurst differing (contextOf s k)) s) k).state = .checking := by
      simp [countBurst, checking]
    split_ifs
    · exact counted
    · generalize setContext k (countBurst differing (contextOf s k)) s = v at counted still
      have stopped := timer_stopped counted (k := k) (by rw [still]; nofun)
      have next : ∀ c : ProbeContext, c.state = .writing → c.stretchTimer = (contextOf v k).stretchTimer →
          logLaw (setContext k c v) := fun c writing timer =>
        logLaw_setContext (by rw [still]; nofun) (by rw [writing]; nofun) (by rw [timer, stopped, writing]; simp) counted
      have finished : ∀ c : ProbeContext, c.state = (contextOf v k).state → c.stretchTimer = (contextOf v k).stretchTimer →
          logLaw (finishProbe k (setContext k c v)) := fun c state timer =>
        logLaw_finishProbe k (by rw [contextOf_setContext_same, state, still]) (logLaw_setContext_same state timer counted)
      unfold endTrial
      dsimp only
      split_ifs
      · exact next _ rfl rfl
      · exact next _ rfl rfl
      · exact finished _ rfl rfl
      · exact finished _ rfl rfl
  all_goals exact law

theorem logLaw_patternBurstResult (k : ContextId) (law : logLaw s) : logLaw (patternBurstResult k s) := by
  unfold patternBurstResult
  dsimp only
  split
  · rename_i writing
    split_ifs
    · exact logLaw_setContext_same rfl rfl law
    · exact logLaw_setContext (by rw [writing]; nofun) nofun (by simp [Timer.isRunning]) law
  all_goals exact law

/-! ### Readings, passes and scans -/

theorem logLaw_enterThermal (new : ThermalState) (law : logLaw s) : logLaw (enterThermal new s) := by
  obtain ⟨-, h⟩ | ⟨-, -, h⟩ | ⟨-, -, h⟩ := enterThermal_cases s new <;> rw [h]
  · exact law
  · exact law
  · exact logLaw_abortAll nofun law

theorem logLaw_readingArrives (reading : Int) (law : logLaw s) : logLaw (readingArrives reading s) := by
  unfold readingArrives
  dsimp only
  generalize (if s.supervisor.window.length < Config.windowReadings then s.supervisor.window
    else s.supervisor.window.drop 1) ++ [reading] = window
  split_ifs
  · exact law
  · exact logLaw_enterThermal _ law

theorem logLaw_testSensorTimeout (law : logLaw s) : logLaw (testSensorTimeout s) := by
  unfold testSensorTimeout sensorTimeout
  split_ifs
  · exact logLaw_enterThermal (s := { s with supervisor := { s.supervisor with window := [], stale := 0 } }) .hot law
  · exact law

theorem logLaw_supervisorPassStart (law : logLaw s) : logLaw (supervisorPassStart s) := by
  unfold supervisorPassStart
  split_ifs
  · exact logLaw_testSensorTimeout law
  · split <;> exact law

theorem logLaw_takeExpiry (law : logLaw s) : logLaw (takeExpiry s) := by
  rw [takeExpiry_eq_expiryPass]
  unfold expiryPass
  dsimp only
  split_ifs
  · exact logLaw_supervisorPassStart law
  · exact law

theorem logLaw_releaseHeld (law : logLaw s) : logLaw (releaseHeld s) := by
  obtain ⟨-, -, eq⟩ | ⟨-, eq⟩ := releaseHeld_cases (s := s) <;> rw [eq]
  · exact logLaw_takeExpiry law
  · exact law

theorem logLaw_advanceScan (c : ScanCursor) (law : logLaw s) : logLaw (advanceScan c s) := by
  obtain ⟨-, eq⟩ | ⟨-, -, eq⟩ | ⟨-, -, eq⟩ := advanceScan_cases (s := s) c <;> rw [eq]
  · exact law
  · exact law
  · rw [endScan_eq, testForced_eq]
    exact logLaw_releaseHeld (s := scanEnded c s) law

theorem logLaw_visitRow (c : ScanCursor) (law : logLaw s) : logLaw (visitRow c s) := by
  obtain ⟨_, _, aged⟩ := ageDemotion_eq (s := s) c.visited
  obtain ⟨-, -, -, eq⟩ | ⟨-, -, -, eq⟩ | ⟨-, eq⟩ := visitRow_cases (s := s) c <;> rw [eq, aged]
  · exact law
  · exact logLaw_advanceScan c (logLaw_of_probes_eq (s := s) rfl law)
  · exact logLaw_advanceScan c (logLaw_of_probes_eq (s := s) rfl law)

/-! ### The soft reset -/

/-- An abort by reset changes one context, which it leaves out of DONE with a stopped timer, and neither the log nor its wait
order. -/
theorem abortContext_reset (k : ContextId) (timers : ∀ m, (contextOf s m).stretchTimer.isRunning = true →
      (contextOf s m).state = .stretch) :
    (∃ c, (∀ m, contextOf (abortContext .reset k s) m = if m = k then c else contextOf s m) ∧
      (c.state = .idle ∨ c.state = .restoring) ∧ c.stretchTimer.isRunning = false) ∧
    (abortContext .reset k s).probes.log = s.probes.log ∧
      (abortContext .reset k s).probes.waiting = s.probes.waiting := by
  have stopped : (contextOf s k).state ≠ .stretch → (contextOf s k).stretchTimer.isRunning = false := fun state => by
    by_contra running
    exact state (timers k (by simpa using running))
  have running : (∃ c, (∀ m, contextOf (abortRunning .reset k s) m = if m = k then c else contextOf s m) ∧
        (c.state = .idle ∨ c.state = .restoring) ∧ c.stretchTimer.isRunning = false) ∧
      (abortRunning .reset k s).probes.log = s.probes.log ∧
        (abortRunning .reset k s).probes.waiting = s.probes.waiting :=
    ⟨⟨_, contextOf_abortRunning .reset k, .inr rfl, rfl⟩, abortRunning_log .reset k⟩
  unfold abortContext
  split
  · rename_i parking
    unfold abortParking
    refine ⟨⟨{ contextOf s k with abortReason := some .reset, state := .idle, outcome := none }, fun m => ?_, .inl rfl,
      stopped (by rw [parking]; nofun)⟩, ?_, ?_⟩
    · simp only [setContext_setContext, contextOf_setContext,
        contextOf_congr_probes (abandonJob_probes (isParkOf k))]
      simp
    · simp only [setContext_probes, abandonJob_probes]
    · simp only [setContext_probes, abandonJob_probes]
  · exact running
  · exact running
  · exact running
  · rename_i restoring
    exact ⟨⟨_, fun m => contextOf_setContext s k m _, .inr restoring, stopped (by rw [restoring]; nofun)⟩, rfl, rfl⟩
  · rename_i done
    exact ⟨⟨{ contextOf s k with state := .idle, outcome := none }, fun m => contextOf_setContext s k m _, .inl rfl, stopped (by rw [done]; nofun)⟩, rfl, rfl⟩
  · rename_i idle
    exact ⟨⟨contextOf s k, fun m => by split_ifs with h; · rw [h]
                                       · rfl, .inl idle, stopped (by rw [idle]; nofun)⟩, rfl, rfl⟩

/-- After a soft reset every context is IDLE or RESTORING, no timer runs, and the log and its wait order are empty (R138, R139). -/
theorem softReset_contexts (law : logLaw s) :
    (∀ k, ((contextOf (softResetEffects s) k).state = .idle ∨ (contextOf (softResetEffects s) k).state = .restoring) ∧
      (contextOf (softResetEffects s) k).stretchTimer.isRunning = false) ∧
    (softResetEffects s).probes.log = [] ∧ (softResetEffects s).probes.waiting = [] := by
  have fold : ∀ (l : List ContextId) (v : State),
      (∀ m, (contextOf v m).stretchTimer.isRunning = true → (contextOf v m).state = .stretch) →
      (∀ m, m ∉ l → ((contextOf v m).state = .idle ∨ (contextOf v m).state = .restoring) ∧
        (contextOf v m).stretchTimer.isRunning = false) →
      (∀ m, ((contextOf (l.foldl (fun t k => abortContext .reset k t) v) m).state = .idle ∨
        (contextOf (l.foldl (fun t k => abortContext .reset k t) v) m).state = .restoring) ∧
        (contextOf (l.foldl (fun t k => abortContext .reset k t) v) m).stretchTimer.isRunning = false) ∧
      (l.foldl (fun t k => abortContext .reset k t) v).probes.log = v.probes.log ∧
      (l.foldl (fun t k => abortContext .reset k t) v).probes.waiting = v.probes.waiting := by
    intro l
    induction l with
    | nil => exact fun v _ settled => ⟨fun m => settled m List.not_mem_nil, rfl, rfl⟩
    | cons k rest ih =>
      intro v timers settled
      obtain ⟨⟨c, at_, state, stopped⟩, log, waiting⟩ := abortContext_reset k timers
      obtain ⟨all, restLog, restWaiting⟩ := ih (abortContext .reset k v) (fun m => by
        rw [at_]
        split_ifs
        · rw [stopped]
          nofun
        · exact timers m) (fun m later => by
        rw [at_]
        split_ifs with h
        · exact ⟨state, stopped⟩
        · exact settled m fun mem => (List.mem_cons.mp mem).elim h later)
      exact ⟨all, restLog.trans log, restWaiting.trans waiting⟩
  have start : ∀ m, contextOf (abandonRetire (softResetStart s)) m = contextOf s m := contextOf_softResetStart
  obtain ⟨all, log, waiting⟩ := fold allContexts (abandonRetire (softResetStart s))
    (fun m running => by
      rw [start] at running ⊢
      exact (law.2.2.2.2 m).mp running)
    (fun m absent => absurd (mem_allContexts m) absent)
  have probes : (softResetEffects s).probes = (softResetAborts s).probes := by
    rw [softResetEffects_eq, testUnwind_probes]
  refine ⟨fun k => ?_, ?_, ?_⟩
  · rw [contextOf_congr_probes probes]
    exact all k
  · rw [probes]
    exact log.trans (congrArg ProbeEngine.log abandonRetire_probes)
  · rw [probes]
    exact waiting.trans (congrArg ProbeEngine.waiting abandonRetire_probes)

theorem logLaw_softResetEffects (law : logLaw s) : logLaw (softResetEffects s) := by
  obtain ⟨all, log, waiting⟩ := softReset_contexts law
  unfold logLaw
  rw [log, waiting]
  refine ⟨List.nodup_nil, fun k => ?_, fun h => absurd rfl h, Nat.zero_le 8, fun k => ?_⟩ <;>
    obtain ⟨state, stopped⟩ := all k
  · obtain state | state := state <;> simp [state]
  · obtain state | state := state <;> simp [state, stopped]

/-! ### Every step -/

theorem Timer.tick_isRunning (timer : Timer) : timer.tick.isRunning = timer.isRunning := by
  cases timer <;> rfl

/-- The law at a release: every context IDLE, nothing logged. -/
theorem logLaw_of_powerOn (h : t.probes = ProbeEngine.atReset) : logLaw t := by
  have context : ∀ k, contextOf t k = ProbeContext.atReset := fun k => by
    rw [contextOf, h]
    exact Quad.get_all _ k
  unfold logLaw
  simp only [context, h]
  exact ⟨List.nodup_nil, fun k => by simp [ProbeContext.atReset, ProbeEngine.atReset], fun h => absurd rfl h, Nat.zero_le 8,
    fun k => by simp [ProbeContext.atReset, Timer.isRunning]⟩

theorem logLaw_accepted (law : logLaw s) (accepted : Accepted s t) : logLaw t := by
  cases accepted with
  | probeStart o mode pattern k i step free cool idle unused =>
    refine logLaw_of_one (s := s) (k := k) (c := startedContext o mode pattern i (contextOf s k))
      (fun m => contextOf_setContext _ k m _) rfl rfl (by rw [idle]; nofun) nofun ?_ law
    simp [startedContext, Timer.isRunning]
  | probeAbort k running => exact logLaw_abortContext .host k law nofun
  | retire home i free single unused => exact law
  | recordRead r => exact law
  | recordWrite o status margin writable ordinary free consistent unused =>
    unfold writeRecord
    split_ifs
    · exact logLaw_of_probes_eq ((retireRecord_probes o.row o.spare).trans (setRedirect_probes _ _ _)) law
    · exact law
  | logRead w => exact law
  | logPop e rest head => exact logLaw_logPop head law
  | tempSupply reading => exact logLaw_readingArrives reading law

theorem logLaw_arbitrated (law : logLaw s) (change : Arbitrated s u) : logLaw u := by
  cases change with
  | nothing => exact law
  | pauseExpired powerup => exact law
  | initCycle row op => exact law
  | initEnded row op => exact law
  | rowRefresh row op => exact law
  | rowClose d op => exact law
  | hostAccess decay target kind column length bytes pageOpen hit op =>
    rw [endAccess_frame, hostArrayEffect_eq]
    exact law
  | failedHead =>
    rw [checkHead_frame]
    exact law
  | popped c rest head =>
    rw [checkHead_frame]
    exact law
  | posted q ready empty =>
    rw [checkHead_frame]
    exact law
  | copyBurst decay source target burst op => exact logLaw_copyBurstResult law
  | unwindEnd => exact logLaw_of_probes_eq testUnwind_probes law
  | patternBurst k row burst bytes op => exact logLaw_patternBurstResult k law
  | checkBurst decay k row burst expected differing op => exact logLaw_checkBurstResult k differing law
  | openRowExpired d runs => exact law
  | sliceExpired room => exact logLaw_of_probes_eq (s := takeExpiry s) rfl (logLaw_takeExpiry law)
  | sensorTimeout => exact logLaw_testSensorTimeout law
  | heldExpiry => exact logLaw_releaseHeld law
  | visit c cursor => exact logLaw_visitRow c law
  | forcedClear =>
    rw [testForced_eq]
    exact law
  | stretchExpired k stretch =>
    exact logLaw_setContext (by rw [stretch]; nofun) nofun (by simp [Timer.isRunning]) law
  | conversion reading =>
    exact logLaw_readingArrives (s := { s with supervisor := { s.supervisor with conversion := .idle } }) reading law
  | softReset ready => exact logLaw_softResetEffects law
  | sensorMode external config mode legal =>
    exact logLaw_enterThermal (s := sensorChanged external { s with config := config }) .hot law
  | command code t ready accepted =>
    have kept := logLaw_accepted (s := { s with host := { s.host with command := code } }) law accepted
    exact kept

theorem logLaw_unarbitrated (law : logLaw s) (change : Unarbitrated s t) : logLaw t := by
  cases change with
  | nothing => exact law
  | time =>
    unfold logLaw at *
    simp only [contextOf_tickTimers, Timer.tick_isRunning]
    exact law
  | asserted => exact law
  | released straps => exact logLaw_of_powerOn rfl
  | logWait =>
    rw [serveWaiting_of_law law]
    exact law
  | held full => exact law
  | discarded => exact law
  | window host requests interrupt queue access completions staging => exact law
  | posted q ready room behind => exact law
  | configured config mode legal => exact law

theorem logLaw_arbitrate (law : logLaw s) : logLaw (arbitrate s) := by
  have same : ∀ k, (contextOf (arbitrate s) k).state = (contextOf s k).state ∧
      (contextOf (arbitrate s) k).stretchTimer = (contextOf s k).stretchTimer := fun k => by
    obtain ⟨_, eq⟩ := contextOf_arbitrate (s := s) k
    rw [eq]
    exact ⟨rfl, rfl⟩
  unfold logLaw at *
  simp only [same, arbitrate_log, arbitrate_waiting]
  exact law

end Sys2Proof.Machine
end

section
/-! PROOFS. The moves of probes and copies, from one bound state to another: what each of them does to the redirect table, the copy
queue and the contexts, and that every owner stays bound to its entry and its job (R100, R104, R105, R112, R118). -/

namespace Sys2Proof.Machine

open Sys2Proof

variable {s t u : State}

/-! ### What a context's records must fit -/

/-- The saved prior record of a context lies within the domains of its status (R51). -/
def priorFits (c : ProbeContext) : Prop :=
  ∀ p, c.prior = some p → classAndMarginFit p.status p.cls p.margin = true ∧ (p.status = .profiled → epochValue p.age = true)

/-- The record a pending outcome gives lies within the domains of its status (R140). -/
def outcomeFits (outcome : Option PendingOutcome) : Prop :=
  ∀ o, outcome.bind PendingOutcome.record = some o → classAndMarginFit o.status o.cls o.margin = true

/-- What the law of the records asks of a context. -/
def contextFits (c : ProbeContext) : Prop := stepsFit c ∧ priorFits c ∧ outcomeFits c.outcome

/-! ### Moves -/

/-- Two values of a context that mean the same to the redirect table, the copy queue and the records. -/
structure SameCourse (c d : ProbeContext) : Prop where
  park : d.state.park = c.state.park
  target : d.target = c.target
  parkIndex : d.parkIndex = c.parkIndex
  prior : d.prior = c.prior
  outcome : d.abortReason = none → c.abortReason = none ∧
    (c.state.park.isSome = true → d.outcome = c.outcome)
  fits : contextFits c → contextFits d

/-- A state with the same records, redirect entries and copy jobs, each context on its course. -/
structure Quiet (s t : State) : Prop where
  records : t.records = s.records
  due : t.scheduler.due = s.scheduler.due
  epoch : s.scheduler.epoch < 256 → t.scheduler.epoch < 256
  redirects : t.redirects = s.redirects
  deviceCount : t.deviceCount = s.deviceCount
  queue : t.copy.queue = s.copy.queue
  retire : t.copy.retire = s.copy.retire
  context : ∀ k, SameCourse (contextOf s k) (contextOf t k)

/-- A context ends: with an outcome, its entry logged or waiting, or without one by a soft reset (R138, R147). -/
inductive Ends (k : ContextId) (s : State) : State → Prop
  | done (outcome : PendingOutcome) (fits : contextFits (contextOf s k) → outcomeFits (some outcome)) :
      Ends k s (enterDone k outcome s)
  | reset : Ends k s (setContext k { contextOf s k with state := .idle, outcome := none } s)

/-- The record a restored row takes: the outcome's of a probe that finished, the saved one of a probe that was aborted (R51, R133,
R144). -/
def restoredRecord (c : ProbeContext) (s : State) : State :=
  match c.abortReason with
  | none => applyOutcome c s
  | some _ => reinstate c s

/-- The state once the head job has left the copy queue. -/
def jobTaken (rest : List CopyJob) (s : State) : State := { s with copy := { s.copy with queue := rest } }

/-- One move of a record, an entry, a job or a context. -/
inductive Move (s : State) : State → Prop
  | quiet {t : State} (same : Quiet s t) : Move s t
  | departed (r : Row) : Move s (departDue r s)
  | appended (row : Row) (stamp : Nat) (absent : (recordOf s row).queued = false)
      (status : (recordOf s row).status ≠ .probing ∧ (recordOf s row).status ≠ .retired) : Move s (appendDue row stamp s)
  | rewritten (row : Row) (record : Record) (old : (recordOf s row).status.open = true)
      (new : record.status.open = true) (queued : record.queued = (recordOf s row).queued)
      (fits : s.scheduler.epoch < 256 → recordFits record) : Move s (setRecord row record s)
  | returned (k : ContextId) (c : ProbeContext) (held : (contextOf s k).state.park = some .parkHeld)
      (target : c.target = (contextOf s k).target) (parkIndex : c.parkIndex = (contextOf s k).parkIndex)
      (prior : c.prior = (contextOf s k).prior)
      (outcome : c.abortReason = none → ∃ o, c.outcome.bind PendingOutcome.record = some o ∧ o.status.open = true)
      (fits : contextFits (contextOf s k) → contextFits { c with state := .restoring }) :
      Move s (beginRestore k (setContext k c s))
  | converted {t : State} (k : ContextId) (c : ProbeContext) (held : (contextOf s k).state.park = some .parkHeld)
      (target : c.target = (contextOf s k).target) (parkIndex : c.parkIndex = (contextOf s k).parkIndex)
      (fits : contextFits (contextOf s k) → contextFits c)
      (ends : Ends k (retireRecord c.target c.parkIndex
        (changeRedirect c.parkIndex .spareActive .command (setContext k c s))) t) : Move s t
  | stopped {t : State} (k : ContextId) (c : ProbeContext) (parking : (contextOf s k).state.park = some .parkCopying)
      (target : c.target = (contextOf s k).target) (parkIndex : c.parkIndex = (contextOf s k).parkIndex)
      (fits : contextFits (contextOf s k) → contextFits c)
      (ends : Ends k (setContext k c (abandonJob (isParkOf k) s)) t) : Move s t
  | parked (k : ContextId) (j : CopyJob) (rest : List CopyJob) (queue : s.copy.queue = j :: rest)
      (owner : j.owner = .context k) (kind : j.kind = .park) :
      Move s (parkDone k (changeRedirect j.index .parkHeld (.context k) (jobTaken rest s)))
  | restored {t : State} (k : ContextId) (j : CopyJob) (rest : List CopyJob) (queue : s.copy.queue = j :: rest)
      (owner : j.owner = .context k) (kind : j.kind = .restore)
      (ends : Ends k (restoredRecord (contextOf s k) (removeRedirect j.index (jobTaken rest s))) t) : Move s t
  | progressed (j : CopyJob) (rest : List CopyJob) (queue : s.copy.queue = j :: rest) (more : j.progress + 1 < 8) :
      Move s (jobTaken ({ j with progress := j.progress + 1 } :: rest) s)
  | retired (j : CopyJob) (rest : List CopyJob) (queue : s.copy.queue = j :: rest) (kind : j.kind = .retire) :
      Move s { retireRecord j.home j.index (changeRedirect j.index .spareActive .command (jobTaken rest s)) with
        copy := { s.copy with queue := rest, retire := none } }
  | retireStopped : Move s (abandonRetire s)
  | spared (row : Row) (i : ReservedIndex) (free : rowFree s row = true) (unused : indexFree s i = true) :
      Move s (retireRecord row i (setRedirect i { home := row, state := .spareActive, owner := .command } s))

/-- Any number of moves. -/
abbrev Moves : State → State → Prop := Relation.ReflTransGen Move

/-! ### Owners that a move does not touch -/

/-- Two values of a context that own the same entry and the same jobs. -/
def SameBinding (c d : ProbeContext) : Prop :=
  d.state.park = c.state.park ∧ d.target = c.target ∧ d.parkIndex = c.parkIndex

/-- An owner has the same entries and the same jobs. -/
def SameOwned (o : Owner) (s t : State) : Prop :=
  (∀ i e, e.owner = o → (redirectAt t i = some e ↔ redirectAt s i = some e)) ∧ jobsOf t o = jobsOf s o

theorem ContextBound.of_same {k : ContextId} (bound : ContextBound s k)
    (binding : SameBinding (contextOf s k) (contextOf t k)) (owned : SameOwned (.context k) s t) : ContextBound t k := by
  obtain ⟨park, target, parkIndex⟩ := binding
  obtain ⟨entries, jobs⟩ := owned
  refine ⟨fun state own => ?_, fun i e at_ owner => ?_, ?_⟩
  · rw [parkIndex, target]
    exact (entries _ _ rfl).mpr (bound.entry state (park ▸ own))
  · rw [park, parkIndex]
    exact bound.owned i e ((entries i e owner).mp at_) owner
  · obtain ⟨progress, small, eq⟩ := bound.jobs
    refine ⟨progress, small, ?_⟩
    rw [jobs, eq]
    unfold contextJobs
    rw [park, target, parkIndex]

theorem CommandBound.of_same (bound : CommandBound s) (retire : t.copy.retire = s.copy.retire)
    (owned : SameOwned .command s t) : CommandBound t := by
  obtain ⟨entries, jobs⟩ := owned
  refine ⟨fun home i outstanding => ?_, fun i e at_ owner => ?_, by rw [jobs, retire]; exact bound.jobs⟩
  · exact (entries _ _ rfl).mpr (bound.entry home i (retire ▸ outstanding))
  · rw [retire]
    exact bound.owned i e ((entries i e owner).mp at_) owner

/-- A move keeps every owner bound if it does not touch it or leaves it bound. -/
theorem Bound.update (law : Bound s) (table : redirectLaw t)
    (context : ∀ m, ContextBound t m ∨ SameBinding (contextOf s m) (contextOf t m) ∧ SameOwned (.context m) s t)
    (command : CommandBound t ∨ t.copy.retire = s.copy.retire ∧ SameOwned .command s t) : Bound t := by
  refine ⟨table, fun m => ?_, ?_⟩
  · obtain bound | ⟨binding, owned⟩ := context m
    · exact bound
    · exact (law.context m).of_same binding owned
  · obtain bound | ⟨retire, owned⟩ := command
    · exact bound
    · exact law.command.of_same retire owned

/-- A change at one index, from an entry and to an entry of other owners, is none of an owner's concern. -/
theorem sameEntries_of_update {i : ReservedIndex} {x : Option RedirectEntry} {o : Owner}
    (at_ : ∀ m, redirectAt t m = if m = i then x else redirectAt s m)
    (old : ∀ e, redirectAt s i = some e → e.owner ≠ o) (new : ∀ e, x = some e → e.owner ≠ o)
    (m : ReservedIndex) (e : RedirectEntry) (owner : e.owner = o) : redirectAt t m = some e ↔ redirectAt s m = some e := by
  rw [at_]
  split_ifs with h
  · rw [h]
    exact ⟨fun eq => absurd owner (new e eq), fun eq => absurd owner (old e eq)⟩
  · rfl

theorem sameOwned_refl_entries {o : Owner} (redirects : t.redirects = s.redirects) (jobs : jobsOf t o = jobsOf s o) :
    SameOwned o s t :=
  ⟨fun i e _ => by rw [redirectAt_congr redirects], jobs⟩

/-! ### The copy queue -/

theorem jobsOf_congr (h : t.copy.queue = s.copy.queue) (o : Owner) : jobsOf t o = jobsOf s o := by
  rw [jobsOf, h]
  rfl

/-- A job that joins the tail is its owner's last. -/
theorem jobsOf_append {j : CopyJob} (queue : t.copy.queue = s.copy.queue ++ [j]) (o : Owner) :
    jobsOf t o = jobsOf s o ++ if j.owner = o then [j] else [] := by
  simp only [jobsOf, queue, List.filter_append, List.filter_cons, List.filter_nil, beq_iff_eq]

/-- The head job is its owner's first. -/
theorem jobsOf_head {j : CopyJob} {rest : List CopyJob} (queue : s.copy.queue = j :: rest) (left : t.copy.queue = rest)
    (o : Owner) : jobsOf s o = (if j.owner = o then [j] else []) ++ jobsOf t o := by
  simp only [jobsOf, queue, left, List.filter_cons, beq_iff_eq]
  split_ifs <;> rfl

/-- An abandoned job is its owner's alone. -/
theorem jobsOf_eraseP_of_mem {isJob : CopyJob → Bool} {o : Owner} (queue : t.copy.queue = s.copy.queue.eraseP isJob)
    (other : ∀ j ∈ s.copy.queue, isJob j = true → j.owner ≠ o) : jobsOf t o = jobsOf s o := by
  rw [jobsOf, queue, jobsOf]
  generalize s.copy.queue = jobs at other
  induction jobs with
  | nil => rfl
  | cons j rest ih =>
    by_cases found : isJob j = true
    · rw [List.eraseP_cons_of_pos found, List.filter_cons_of_neg]
      simpa using other j List.mem_cons_self found
    · rw [List.eraseP_cons_of_neg found, List.filter_cons, List.filter_cons,
        ih fun j mem => other j (List.mem_cons_of_mem _ mem)]

theorem jobsOf_eraseP {isJob : CopyJob → Bool} {o : Owner} (queue : t.copy.queue = s.copy.queue.eraseP isJob)
    (other : ∀ j, isJob j = true → j.owner ≠ o) : jobsOf t o = jobsOf s o :=
  jobsOf_eraseP_of_mem queue fun j _ => other j

/-- An owner whose one job is abandoned has none left. -/
theorem jobsOf_eraseP_same {isJob : CopyJob → Bool} {o : Owner} {j : CopyJob}
    (queue : t.copy.queue = s.copy.queue.eraseP isJob) (only : jobsOf s o = [j])
    (found : ∀ j ∈ s.copy.queue, isJob j = true ↔ j.owner = o) : jobsOf t o = [] := by
  rw [jobsOf, queue]
  rw [jobsOf] at only
  generalize s.copy.queue = queue at only found
  induction queue with
  | nil => rfl
  | cons a rest ih =>
    by_cases own : isJob a = true
    · rw [List.eraseP_cons_of_pos own]
      have owner := (found a List.mem_cons_self).mp own
      rw [List.filter_cons_of_pos (by simpa using owner)] at only
      exact (List.cons.inj only).2
    · have other := (found a List.mem_cons_self).not.mp own
      rw [List.eraseP_cons_of_neg own, List.filter_cons_of_neg (by simpa using other)]
      rw [List.filter_cons_of_neg (by simpa using other)] at only
      exact ih only fun j mem => found j (List.mem_cons_of_mem _ mem)

theorem mem_jobsOf {j : CopyJob} {o : Owner} : j ∈ jobsOf s o ↔ j ∈ s.copy.queue ∧ j.owner = o := by
  simp [jobsOf]

/-- The head job of a bound state: a PARK or RESTORE job of a context in that state, or the outstanding RETIRE (R104). -/
theorem Bound.head_job (law : Bound s) {j : CopyJob} {rest : List CopyJob} (queue : s.copy.queue = j :: rest) :
    (∃ k, j.owner = .context k ∧ j.home = (contextOf s k).target ∧ j.index = (contextOf s k).parkIndex ∧
      (j.kind = .park ∧ (contextOf s k).state.park = some .parkCopying ∨
        j.kind = .restore ∧ (contextOf s k).state.park = some .parkRestoring)) ∨
    j.owner = .command ∧ j.kind = .retire ∧ s.copy.retire = some (j.home, j.index) := by
  have mem : j ∈ jobsOf s j.owner := mem_jobsOf.mpr ⟨by rw [queue]; exact List.mem_cons_self, rfl⟩
  cases owner : j.owner with
  | context k =>
    obtain ⟨progress, -, eq⟩ := (law.context k).jobs
    rw [owner, eq] at mem
    unfold contextJobs at mem
    refine .inl ⟨k, rfl, ?_⟩
    split at mem
    · rw [List.mem_singleton] at mem
      rw [mem]
      exact ⟨rfl, rfl, .inl ⟨rfl, ‹_›⟩⟩
    · rw [List.mem_singleton] at mem
      rw [mem]
      exact ⟨rfl, rfl, .inr ⟨rfl, ‹_›⟩⟩
    all_goals cases mem
  | command =>
    obtain ⟨progress, -, eq⟩ := law.command.jobs
    rw [owner, eq] at mem
    unfold retireJobs at mem
    split at mem
    · cases mem
    · rw [List.mem_singleton] at mem
      rw [mem]
      exact .inr ⟨rfl, rfl, ‹_›⟩

/-- Once a context's one job has left the queue it has none. -/
theorem Bound.no_job_left (law : Bound s) {j : CopyJob} {rest : List CopyJob} (queue : s.copy.queue = j :: rest)
    (left : t.copy.queue = rest) : jobsOf t j.owner = [] := by
  have split := jobsOf_head queue left j.owner
  rw [if_pos rfl] at split
  have short : (jobsOf s j.owner).length ≤ 1 := by
    cases j.owner with
    | context k =>
      obtain ⟨progress, -, eq⟩ := (law.context k).jobs
      rw [eq, contextJobs_length]
      cases (contextOf s k).state <;> simp [ContextState.jobs]
    | command =>
      obtain ⟨progress, -, eq⟩ := law.command.jobs
      rw [eq]
      unfold retireJobs
      split <;> simp
  rw [split, List.length_append, List.length_singleton] at short
  exact List.length_eq_zero_iff.mp (by omega)

theorem jobsOf_tail_of_ne {j : CopyJob} {rest : List CopyJob} (queue : s.copy.queue = j :: rest)
    (left : t.copy.queue = rest) {o : Owner} (other : j.owner ≠ o) : jobsOf t o = jobsOf s o := by
  rw [jobsOf_head queue left o, if_neg other, List.nil_append]

end Sys2Proof.Machine
end

section
/-! PROOFS. Every move keeps every owner bound to its entry and its job. -/

namespace Sys2Proof.Machine

open Sys2Proof

variable {s t u : State}

/-! ### What the moves leave of the parts -/

section

variable {k : ContextId}

theorem Ends.redirects (h : Ends k s t) : t.redirects = s.redirects := by
  cases h with
  | done outcome => exact enterDone_redirects k outcome
  | reset => rfl

theorem Ends.copy (h : Ends k s t) : t.copy = s.copy := by
  cases h with
  | done outcome => exact enterDone_copy k outcome
  | reset => rfl

theorem Ends.records (h : Ends k s t) : t.records = s.records := by
  cases h with
  | done outcome => exact (enterDone_probeChange s k outcome).records
  | reset => rfl

theorem Ends.scheduler (h : Ends k s t) : t.scheduler = s.scheduler := by
  cases h with
  | done outcome => exact (enterDone_probeChange s k outcome).scheduler
  | reset => rfl

theorem Ends.deviceCount (h : Ends k s t) : t.deviceCount = s.deviceCount := by
  cases h with
  | done outcome => exact (enterDone_probeChange s k outcome).pass.deviceCount
  | reset => rfl

/-- The context that ends owns nothing; the others are as they were. -/
theorem Ends.context (h : Ends k s t) : ∃ state outcome, (state = .idle ∨ state = .done) ∧
    (contextFits (contextOf s k) → outcomeFits outcome) ∧ ∀ m, contextOf t m =
      if m = k then { contextOf s k with state := state, outcome := outcome } else contextOf s m := by
  cases h with
  | done outcome fits => exact ⟨_, _, endState_cases, fits, fun m => contextOf_enterDone k m outcome⟩
  | reset => exact ⟨_, _, .inl rfl, fun _ _ h => (by cases h), fun m => contextOf_setContext s k m _⟩

end

@[simp] theorem restoredRecord_redirects (c : ProbeContext) : (restoredRecord c s).redirects = s.redirects := by
  unfold restoredRecord
  split
  · exact applyOutcome_redirects c
  · exact reinstate_redirects c

@[simp] theorem restoredRecord_copy (c : ProbeContext) : (restoredRecord c s).copy = s.copy := by
  unfold restoredRecord
  split
  · exact applyOutcome_copy c
  · exact reinstate_copy c

@[simp] theorem restoredRecord_probes (c : ProbeContext) : (restoredRecord c s).probes = s.probes := by
  unfold restoredRecord
  split
  · exact applyOutcome_probes c
  · exact reinstate_probes c

@[simp] theorem restoredRecord_scheduler (c : ProbeContext) : (restoredRecord c s).scheduler = s.scheduler := by
  unfold restoredRecord
  split
  · exact applyOutcome_scheduler s c
  · exact reinstate_scheduler s c

@[simp] theorem restoredRecord_deviceCount (c : ProbeContext) : (restoredRecord c s).deviceCount = s.deviceCount := by
  unfold restoredRecord
  split
  · exact (applyOutcome_jobChange s c).deviceCount
  · exact (reinstate_jobChange s c).deviceCount

@[simp] theorem parkDone_redirects (k : ContextId) : (parkDone k s).redirects = s.redirects := by
  unfold parkDone
  dsimp only
  split
  · rw [setContext_redirects, setRecord_redirects, departIfQueued_redirects]
  all_goals rfl

/-! ### Who owns what at a move -/

/-- The entry at a context's park index is its own, and its jobs are as its state has them. -/
theorem Bound.park_entry (law : Bound s) {k : ContextId} {state : RedirectState}
    (own : (contextOf s k).state.park = some state) : redirectAt s (contextOf s k).parkIndex =
      some { home := (contextOf s k).target, state := state, owner := .context k } :=
  (law.context k).entry state own

theorem Bound.held_jobs (law : Bound s) {k : ContextId} (held : (contextOf s k).state.park = some .parkHeld) :
    jobsOf s (.context k) = [] := by
  obtain ⟨progress, -, eq⟩ := (law.context k).jobs
  rw [eq, contextJobs, held]

/-- A context that has no entry left in a state without one is bound, if it has no job. -/
theorem ContextBound.of_free {k : ContextId} (free : (contextOf t k).state.park = none)
    (entries : ∀ i e, redirectAt t i = some e → e.owner ≠ .context k) (jobs : jobsOf t (.context k) = []) :
    ContextBound t k := by
  refine ⟨fun state own => ?_, fun i e at_ owner => absurd owner (entries i e at_), 0, by omega, ?_⟩
  · rw [free] at own
    cases own
  · rw [jobs, contextJobs, free]

/-- A context is bound by its entry, if it owns no other. -/
theorem ContextBound.of_entry {k : ContextId} {state : RedirectState} (own : (contextOf t k).state.park = some state)
    (entry : redirectAt t (contextOf t k).parkIndex =
      some { home := (contextOf t k).target, state := state, owner := .context k })
    (only : ∀ i e, redirectAt t i = some e → e.owner = .context k → i = (contextOf t k).parkIndex)
    (jobs : ∃ progress < 8, jobsOf t (.context k) = contextJobs k (contextOf t k) progress) : ContextBound t k := by
  refine ⟨fun other eq => ?_, fun i e at_ owner => ⟨by rw [own]; rfl, (only i e at_ owner).symm⟩, jobs⟩
  rw [own, Option.some.injEq] at eq
  rw [← eq]
  exact entry

theorem Bound.only_entry (law : Bound s) {k : ContextId} {i : ReservedIndex} {e : RedirectEntry}
    (at_ : redirectAt s i = some e) (owner : e.owner = .context k) : i = (contextOf s k).parkIndex :=
  ((law.context k).owned i e at_ owner).2.symm

theorem owner_ne {k m : ContextId} (h : m ≠ k) : Owner.context k ≠ Owner.context m := fun eq => h (Owner.context.inj eq).symm

/-! ### The moves one by one -/

theorem Bound.of_quiet (law : Bound s) (same : Quiet s t) : Bound t := by
  refine law.update (redirectLaw_congr same.redirects same.deviceCount law.table) (fun m => .inr ⟨?_, ?_⟩)
    (.inr ⟨same.retire, ?_⟩)
  · exact ⟨(same.context m).park, (same.context m).target, (same.context m).parkIndex⟩
  · exact sameOwned_refl_entries same.redirects (jobsOf_congr same.queue _)
  · exact sameOwned_refl_entries same.redirects (jobsOf_congr same.queue _)

/-- A change of records alone. -/
theorem Bound.of_records (law : Bound s) (redirects : t.redirects = s.redirects) (devices : t.deviceCount = s.deviceCount)
    (copy : t.copy = s.copy) (probes : t.probes = s.probes) : Bound t := by
  have jobs : ∀ o, jobsOf t o = jobsOf s o := jobsOf_congr (by rw [copy])
  refine law.update (redirectLaw_congr redirects devices law.table)
    (fun m => .inr ⟨?_, sameOwned_refl_entries redirects (jobs _)⟩)
    (.inr ⟨by rw [copy], sameOwned_refl_entries redirects (jobs _)⟩)
  rw [contextOf_congr_probes probes]
  exact ⟨rfl, rfl, rfl⟩

/-- A context that holds its park brings its row home (R104, R132, R136). -/
theorem Bound.of_returned (law : Bound s) {k : ContextId} {c : ProbeContext}
    (held : (contextOf s k).state.park = some .parkHeld) (target : c.target = (contextOf s k).target)
    (parkIndex : c.parkIndex = (contextOf s k).parkIndex) : Bound (beginRestore k (setContext k c s)) := by
  have entry := law.park_entry held
  have context : ∀ m, contextOf (beginRestore k (setContext k c s)) m =
      if m = k then { c with state := .restoring } else contextOf s m := fun m => by
    rw [contextOf_beginRestore, contextOf_setContext_same, contextOf_setContext]
    split_ifs <;> rfl
  have redirects : (beginRestore k (setContext k c s)).redirects =
      (changeRedirect (contextOf s k).parkIndex .parkRestoring (.context k) s).redirects := by
    rw [beginRestore_eq, contextOf_setContext_same, parkIndex]
    unfold changeRedirect
    rw [setContext_redirectAt, entry]
    rfl
  have queue : (beginRestore k (setContext k c s)).copy.queue = s.copy.queue ++
      [{ kind := .restore, home := c.target, index := c.parkIndex, owner := .context k, progress := 0 }] := by
    rw [beginRestore_eq, contextOf_setContext_same]
    rfl
  have retire : (beginRestore k (setContext k c s)).copy.retire = s.copy.retire := by rw [beginRestore_eq]; rfl
  have devices : (beginRestore k (setContext k c s)).deviceCount = s.deviceCount := by rw [beginRestore_eq]; rfl
  generalize beginRestore k (setContext k c s) = t at context redirects queue retire devices ⊢
  have at_ : ∀ m, redirectAt t m = if m = (contextOf s k).parkIndex
      then some { home := c.target, state := .parkRestoring, owner := .context k } else redirectAt s m := fun m => by
    rw [redirectAt_congr redirects, redirectAt_changeRedirect, entry, target]
    rfl
  have others : ∀ o, o ≠ .context k → SameOwned o s t := fun o other => by
    refine ⟨sameEntries_of_update at_ (fun e eq => ?_) (fun e eq => ?_), ?_⟩
    · rw [entry, Option.some.injEq] at eq
      rw [← eq]
      exact other.symm
    · rw [Option.some.injEq] at eq
      rw [← eq]
      exact other.symm
    · rw [jobsOf_append queue, if_neg other.symm, List.append_nil]
  refine law.update (redirectLaw_changeRedirect law.table redirects devices) (fun m => ?_)
    (.inr ⟨retire, others _ nofun⟩)
  by_cases h : m = k
  · subst h
    have own : contextOf t m = { c with state := .restoring } := by rw [context, if_pos rfl]
    refine .inl (.of_entry (state := .parkRestoring) (by rw [own]; rfl) ?_ (fun i e eq owner => ?_) ?_)
    · rw [own, at_, if_pos parkIndex]
    · rw [own]
      rw [at_] at eq
      split_ifs at eq with here
      · rw [here, parkIndex]
      · exact (law.only_entry eq owner).trans parkIndex.symm
    · refine ⟨0, by omega, ?_⟩
      rw [jobsOf_append queue, law.held_jobs held, if_pos rfl, own]
      rfl
  · exact .inr ⟨by rw [context, if_neg h]; exact ⟨rfl, rfl, rfl⟩, others _ fun eq => h (Owner.context.inj eq)⟩

/-- The park of a context becomes a spare of the command unit, and the context ends (R145). -/
theorem Bound.of_converted (law : Bound s) {k : ContextId} {c : ProbeContext}
    (held : (contextOf s k).state.park = some .parkHeld) (target : c.target = (contextOf s k).target)
    (parkIndex : c.parkIndex = (contextOf s k).parkIndex)
    (ends : Ends k (retireRecord c.target c.parkIndex
      (changeRedirect c.parkIndex .spareActive .command (setContext k c s))) t) : Bound t := by
  have entry := law.park_entry held
  obtain ⟨state, outcome, ended, -, after⟩ := ends.context
  have redirects : t.redirects = (changeRedirect (contextOf s k).parkIndex .spareActive .command s).redirects := by
    rw [ends.redirects, retireRecord_redirects, parkIndex]
    unfold changeRedirect
    rw [setContext_redirectAt, entry]
    rfl
  have copy : t.copy = s.copy := by rw [ends.copy, retireRecord_copy, changeRedirect_copy, setContext_copy]
  have devices : t.deviceCount = s.deviceCount := by
    rw [ends.deviceCount, (retireRecord_jobChange _ _ _).deviceCount, changeRedirect_eq]
    rfl
  have at_ : ∀ m, redirectAt t m = if m = (contextOf s k).parkIndex
      then some { home := (contextOf s k).target, state := .spareActive, owner := .command } else redirectAt s m := fun m => by
    rw [redirectAt_congr redirects, redirectAt_changeRedirect, entry]
    rfl
  have jobs : ∀ o, jobsOf t o = jobsOf s o := jobsOf_congr (by rw [copy])
  have mid : ∀ m, contextOf (retireRecord c.target c.parkIndex
      (changeRedirect c.parkIndex .spareActive .command (setContext k c s))) m = if m = k then c else contextOf s m :=
    fun m => by
      rw [contextOf_congr_probes (retireRecord_probes _ _), contextOf_congr_probes (changeRedirect_probes _ _ _),
        contextOf_setContext]
  refine law.update (redirectLaw_changeRedirect law.table redirects devices) (fun m => ?_) (.inl ?_)
  · by_cases h : m = k
    · subst h
      refine .inl (.of_free ?_ (fun i e eq owner => ?_) (by rw [jobs, law.held_jobs held]))
      · rw [after, if_pos rfl]
        obtain rfl | rfl := ended <;> rfl
      · rw [at_] at eq
        split_ifs at eq with here
        · rw [Option.some.injEq] at eq
          rw [← eq] at owner
          cases owner
        · exact here (law.only_entry eq owner)
    · refine .inr ⟨by rw [after, if_neg h, mid, if_neg h]; exact ⟨rfl, rfl, rfl⟩,
        sameEntries_of_update at_ (fun e eq => ?_) (fun e eq => ?_), jobs _⟩
      · rw [entry, Option.some.injEq] at eq
        rw [← eq]
        exact owner_ne h
      · rw [Option.some.injEq] at eq
        rw [← eq]
        nofun
  · have retire : t.copy.retire = s.copy.retire := by rw [copy]
    refine ⟨fun home i outstanding => ?_, fun i e eq owner => ?_, by rw [jobs, retire]; exact law.command.jobs⟩
    · rw [retire] at outstanding
      have listed := law.command.entry home i outstanding
      rw [at_, if_neg fun here => ?_, listed]
      rw [here, entry] at listed
      cases listed
    · rw [at_] at eq
      rw [retire]
      split_ifs at eq with here
      · rw [Option.some.injEq] at eq
        subst eq
        refine ⟨rfl, nofun, fun outstanding => ?_⟩
        have listed := law.command.entry _ i outstanding
        rw [here, entry] at listed
        cases listed
      · exact law.command.owned i e eq owner

/-- The PARK job of a context in PARKING is the one the abandonment finds (R105, R110). -/
theorem Bound.abandonJob_park (law : Bound s) {k : ContextId} (parking : (contextOf s k).state.park = some .parkCopying) :
    ∃ engine, abandonJob (isParkOf k) s = { s with
      redirects := Sparse.erase (contextOf s k).parkIndex.val s.redirects
      copy := { s.copy with queue := s.copy.queue.eraseP (isParkOf k), engine := engine } } ∧
    (∀ j ∈ s.copy.queue, isParkOf k j = true ↔ j.owner = .context k) ∧ ∃ j, jobsOf s (.context k) = [j] := by
  obtain ⟨progress, -, eq⟩ := (law.context k).jobs
  rw [contextJobs, parking] at eq
  have found : ∀ j ∈ s.copy.queue, isParkOf k j = true ↔ j.owner = .context k := fun j mem => by
    simp only [isParkOf, Bool.and_eq_true, beq_iff_eq, and_iff_right_iff_imp]
    intro owner
    have listed := mem_jobsOf.mpr ⟨mem, owner⟩
    rw [eq, List.mem_singleton] at listed
    rw [listed]
  obtain ⟨none, -⟩ | ⟨j, engine, first, changed, -⟩ := abandonJob_cases s (isParkOf k)
  · have listed : CopyJob.mk .park (contextOf s k).target (contextOf s k).parkIndex (.context k) progress ∈
        jobsOf s (.context k) := by
      rw [eq]
      exact List.mem_singleton_self _
    obtain ⟨mem, owner⟩ := mem_jobsOf.mp listed
    have := List.find?_eq_none.mp none _ mem
    exact absurd ((found _ mem).mpr owner) this
  · have isPark := List.find?_some first
    have mem := List.mem_of_find?_eq_some first
    have listed := mem_jobsOf.mpr ⟨mem, (found j mem).mp isPark⟩
    rw [eq, List.mem_singleton] at listed
    rw [listed] at changed
    exact ⟨engine, changed, found, _, eq⟩

/-- A context in PARKING gives up its park and ends (R135, R138). -/
theorem Bound.of_stopped (law : Bound s) {k : ContextId} {c : ProbeContext}
    (parking : (contextOf s k).state.park = some .parkCopying) 
    (ends : Ends k (setContext k c (abandonJob (isParkOf k) s)) t) : Bound t := by
  have entry := law.park_entry parking
  obtain ⟨engine, abandoned, found, j, only⟩ := law.abandonJob_park parking
  obtain ⟨state, outcome, ended, -, after⟩ := ends.context
  have redirects : t.redirects = Sparse.erase (contextOf s k).parkIndex.val s.redirects := by
    rw [ends.redirects, setContext_redirects, abandoned]
  have queue : t.copy.queue = s.copy.queue.eraseP (isParkOf k) := by rw [ends.copy, setContext_copy, abandoned]
  have retire : t.copy.retire = s.copy.retire := by rw [ends.copy, setContext_copy, abandoned]
  have devices : t.deviceCount = s.deviceCount := by rw [ends.deviceCount, setContext_deviceCount, abandoned]
  have at_ : ∀ m, redirectAt t m = if m = (contextOf s k).parkIndex then none else redirectAt s m := fun m => by
    rw [redirectAt_congr (s := removeRedirect (contextOf s k).parkIndex s) redirects, redirectAt_removeRedirect]
  have others : ∀ o, o ≠ .context k → SameOwned o s t := fun o other => by
    refine ⟨sameEntries_of_update at_ (fun e eq => ?_) nofun, jobsOf_eraseP queue fun j isPark owner => ?_⟩
    · rw [entry, Option.some.injEq] at eq
      rw [← eq]
      exact other.symm
    · simp only [isParkOf, Bool.and_eq_true, beq_iff_eq] at isPark
      exact other (owner.symm.trans isPark.2)
  refine law.update (redirectLaw_erase _ law.table redirects devices) (fun m => ?_) (.inr ⟨retire, others _ nofun⟩)
  by_cases h : m = k
  · subst h
    refine .inl (.of_free ?_ (fun i e eq owner => ?_) (jobsOf_eraseP_same queue only found))
    · rw [after, if_pos rfl]
      obtain rfl | rfl := ended <;> rfl
    · rw [at_] at eq
      split_ifs at eq with here
      exact here (law.only_entry eq owner)
  · refine .inr ⟨?_, others _ fun eq => h (Owner.context.inj eq)⟩
    rw [after, if_neg h, contextOf_setContext, if_neg h, contextOf_congr_probes (abandonJob_probes _)]
    exact ⟨rfl, rfl, rfl⟩

/-- The head job of a context, with its kind. -/
theorem Bound.head_context (law : Bound s) {k : ContextId} {j : CopyJob} {rest : List CopyJob}
    (queue : s.copy.queue = j :: rest) (owner : j.owner = .context k) :
    j.home = (contextOf s k).target ∧ j.index = (contextOf s k).parkIndex ∧
      (j.kind = .park ∧ (contextOf s k).state.park = some .parkCopying ∨
        j.kind = .restore ∧ (contextOf s k).state.park = some .parkRestoring) := by
  obtain ⟨m, own, facts⟩ | ⟨own, -⟩ := law.head_job queue
  · rw [owner] at own
    rw [Owner.context.inj own]
    exact facts
  · rw [owner] at own
    cases own

/-- PARKING is the one state with a PARK/COPYING entry. -/
theorem ContextState.park_eq_parkCopying {c : ContextState} : c.park = some .parkCopying ↔ c = .parking := by
  cases c <;> decide

theorem ContextState.park_eq_parkRestoring {c : ContextState} : c.park = some .parkRestoring ↔ c = .restoring := by
  cases c <;> decide

theorem ContextState.park_eq_parkHeld {c : ContextState} :
    c.park = some .parkHeld ↔ c = .writing ∨ c = .stretch ∨ c = .checking := by
  cases c <;> decide

/-- A PARK job ends: its row is held by the context (R107, R123). -/
theorem Bound.of_parked (law : Bound s) {k : ContextId} {j : CopyJob} {rest : List CopyJob}
    (queue : s.copy.queue = j :: rest) (owner : j.owner = .context k) (kind : j.kind = .park) :
    Bound (parkDone k (changeRedirect j.index .parkHeld (.context k) (jobTaken rest s))) := by
  obtain ⟨home, index, ⟨-, parking⟩ | ⟨other, -⟩⟩ := law.head_context queue owner
  swap
  · rw [kind] at other
    cases other
  have entry := law.park_entry parking
  have mid : ∀ m, contextOf (changeRedirect j.index .parkHeld (.context k) (jobTaken rest s)) m = contextOf s m :=
    fun m => by
      rw [contextOf_congr_probes (changeRedirect_probes _ _ _)]
      rfl
  have state : (contextOf s k).state = .parking := ContextState.park_eq_parkCopying.mp parking
  have context : ∀ m, SameBinding
      (if m = k then { contextOf s k with state := .writing } else contextOf s m)
      (contextOf (parkDone k (changeRedirect j.index .parkHeld (.context k) (jobTaken rest s))) m) := fun m => by
    rw [contextOf_parkDone]
    simp only [mid, state, and_true]
    split_ifs <;> exact ⟨rfl, rfl, rfl⟩
  have redirects : (parkDone k (changeRedirect j.index .parkHeld (.context k) (jobTaken rest s))).redirects =
      (changeRedirect (contextOf s k).parkIndex .parkHeld (.context k) s).redirects := by
    rw [parkDone_redirects, index]
    have same : redirectAt (jobTaken rest s) (contextOf s k).parkIndex = redirectAt s (contextOf s k).parkIndex := rfl
    unfold changeRedirect
    rw [same, entry]
    rfl
  have left : (parkDone k (changeRedirect j.index .parkHeld (.context k) (jobTaken rest s))).copy.queue = rest := by
    rw [parkDone_copy, changeRedirect_copy]
    rfl
  have retire : (parkDone k (changeRedirect j.index .parkHeld (.context k) (jobTaken rest s))).copy.retire =
      s.copy.retire := by
    rw [parkDone_copy, changeRedirect_copy]
    rfl
  have devices : (parkDone k (changeRedirect j.index .parkHeld (.context k) (jobTaken rest s))).deviceCount =
      s.deviceCount := by
    rw [(parkDone_jobChange _ k).deviceCount, changeRedirect_eq]
    rfl
  generalize parkDone k (changeRedirect j.index .parkHeld (.context k) (jobTaken rest s)) = t
    at context redirects left retire devices ⊢
  have at_ : ∀ m, redirectAt t m = if m = (contextOf s k).parkIndex
      then some { home := (contextOf s k).target, state := .parkHeld, owner := .context k } else redirectAt s m := fun m => by
    rw [redirectAt_congr redirects, redirectAt_changeRedirect, entry]
    rfl
  have others : ∀ o, o ≠ .context k → SameOwned o s t := fun o other => by
    refine ⟨sameEntries_of_update at_ (fun e eq => ?_) (fun e eq => ?_),
      jobsOf_tail_of_ne queue left (by rw [owner]; exact other.symm)⟩
    · rw [entry, Option.some.injEq] at eq
      rw [← eq]
      exact other.symm
    · rw [Option.some.injEq] at eq
      rw [← eq]
      exact other.symm
  refine law.update (redirectLaw_changeRedirect law.table redirects devices) (fun m => ?_)
    (.inr ⟨retire, others _ nofun⟩)
  have binding := context m
  by_cases h : m = k
  · subst h
    rw [if_pos rfl] at binding
    obtain ⟨park, target, parkIndex⟩ := binding
    have none := law.no_job_left queue left
    rw [owner] at none
    refine .inl (.of_entry (state := .parkHeld) park ?_ (fun i e eq owns => ?_) ⟨0, by omega, ?_⟩)
    · rw [parkIndex, target, at_, if_pos rfl]
    · rw [parkIndex]
      rw [at_] at eq
      split_ifs at eq with here
      · exact here
      · exact law.only_entry eq owns
    · rw [none, contextJobs, park]
      rfl
  · rw [if_neg h] at binding
    exact .inr ⟨binding, others _ fun eq => h (Owner.context.inj eq)⟩

/-- A RESTORE job ends: its entry is gone and the context ends (R108, R133). -/
theorem Bound.of_restored (law : Bound s) {k : ContextId} {j : CopyJob} {rest : List CopyJob}
    (queue : s.copy.queue = j :: rest) (owner : j.owner = .context k) (kind : j.kind = .restore) {c : ProbeContext}
    (ends : Ends k (restoredRecord c (removeRedirect j.index (jobTaken rest s))) t) : Bound t := by
  obtain ⟨home, index, ⟨other, -⟩ | ⟨-, restoring⟩⟩ := law.head_context queue owner
  · rw [kind] at other
    cases other
  have entry := law.park_entry restoring
  obtain ⟨state, outcome, ended, -, after⟩ := ends.context
  have redirects : t.redirects = Sparse.erase (contextOf s k).parkIndex.val s.redirects := by
    rw [ends.redirects, restoredRecord_redirects, removeRedirect_redirects, index]
    rfl
  have left : t.copy.queue = rest := by
    rw [ends.copy, restoredRecord_copy]
    rfl
  have retire : t.copy.retire = s.copy.retire := by
    rw [ends.copy, restoredRecord_copy]
    rfl
  have devices : t.deviceCount = s.deviceCount := by
    rw [ends.deviceCount, restoredRecord_deviceCount]
    rfl
  have at_ : ∀ m, redirectAt t m = if m = (contextOf s k).parkIndex then none else redirectAt s m := fun m => by
    rw [redirectAt_congr (s := removeRedirect (contextOf s k).parkIndex s) redirects, redirectAt_removeRedirect]
  have others : ∀ o, o ≠ .context k → SameOwned o s t := fun o other => by
    refine ⟨sameEntries_of_update at_ (fun e eq => ?_) nofun,
      jobsOf_tail_of_ne queue left (by rw [owner]; exact other.symm)⟩
    rw [entry, Option.some.injEq] at eq
    rw [← eq]
    exact other.symm
  refine law.update (redirectLaw_erase _ law.table redirects devices) (fun m => ?_) (.inr ⟨retire, others _ nofun⟩)
  by_cases h : m = k
  · subst h
    have none := law.no_job_left queue left
    rw [owner] at none
    refine .inl (.of_free ?_ (fun i e eq owns => ?_) none)
    · rw [after, if_pos rfl]
      obtain rfl | rfl := ended <;> rfl
    · rw [at_] at eq
      split_ifs at eq with here
      exact here (law.only_entry eq owns)
  · refine .inr ⟨?_, others _ fun eq => h (Owner.context.inj eq)⟩
    rw [after, if_neg h, contextOf_congr_probes (restoredRecord_probes c)]
    exact ⟨rfl, rfl, rfl⟩

end Sys2Proof.Machine
end

section
/-! PROOFS. The moves of the command unit's entries and jobs, and those that commands make; every move keeps every owner bound. -/

namespace Sys2Proof.Machine

open Sys2Proof

variable {s t u : State}

/-! ### Free indices and rows -/

theorem indexFree_iff {i : ReservedIndex} : indexFree s i = true ↔ i.val < 2 * s.deviceCount ∧ redirectAt s i = none := by
  simp [indexFree, indexExists]

/-- A free row is open to probes and spares, and has no entry (R112, R119). -/
theorem rowFree_iff {r : Row} : rowFree s r = true ↔ (recordOf s r).status.open = true ∧ hasRedirect s r = false := by
  unfold rowFree RecordStatus.open
  cases (recordOf s r).status <;> simp

/-- No entry names a free row. -/
theorem no_entry_of_free (table : redirectLaw s) {r : Row} (free : rowFree s r = true) {i : ReservedIndex}
    {e : RedirectEntry} (at_ : redirectAt s i = some e) : e.home ≠ r := fun home => by
  have has := (hasRedirect_iff table).mpr ⟨i, e, at_, home⟩
  rw [(rowFree_iff.mp free).2] at has
  cases has

/-! ### The command unit's moves -/

/-- The command unit's jobs are the RETIRE jobs (R104). -/
theorem Bound.isRetire_iff (law : Bound s) {j : CopyJob} (mem : j ∈ s.copy.queue) :
    isRetire j = true ↔ j.owner = .command := by
  have listed : j ∈ jobsOf s j.owner := mem_jobsOf.mpr ⟨mem, rfl⟩
  unfold isRetire
  cases owner : j.owner with
  | context k =>
    obtain ⟨progress, -, eq⟩ := (law.context k).jobs
    rw [owner, eq] at listed
    unfold contextJobs at listed
    split at listed
    · rw [List.mem_singleton] at listed
      simp [listed]
    · rw [List.mem_singleton] at listed
      simp [listed]
    all_goals cases listed
  | command =>
    obtain ⟨progress, -, eq⟩ := law.command.jobs
    rw [owner, eq] at listed
    unfold retireJobs at listed
    split at listed
    · cases listed
    · rw [List.mem_singleton] at listed
      simp [listed]

/-- A RETIRE job ends: its entry becomes a spare (R109). -/
theorem Bound.of_retired (law : Bound s) {j : CopyJob} {rest : List CopyJob} (queue : s.copy.queue = j :: rest)
    (kind : j.kind = .retire) (redirects : t.redirects = (changeRedirect j.index .spareActive .command s).redirects)
    (devices : t.deviceCount = s.deviceCount) (left : t.copy.queue = rest) (retire : t.copy.retire = none)
    (probes : t.probes = s.probes) : Bound t := by
  obtain ⟨k, -, -, -, ⟨other, -⟩ | ⟨other, -⟩⟩ | ⟨owner, -, outstanding⟩ := law.head_job queue
  · rw [kind] at other
    cases other
  · rw [kind] at other
    cases other
  have entry := law.command.entry _ _ outstanding
  have at_ : ∀ m, redirectAt t m = if m = j.index
      then some { home := j.home, state := .spareActive, owner := .command } else redirectAt s m := fun m => by
    rw [redirectAt_congr redirects, redirectAt_changeRedirect, entry]
    rfl
  refine law.update (redirectLaw_changeRedirect law.table redirects devices) (fun m => .inr ⟨?_, ?_, ?_⟩) (.inl ?_)
  · rw [contextOf_congr_probes probes]
    exact ⟨rfl, rfl, rfl⟩
  · refine sameEntries_of_update at_ (fun e eq => ?_) (fun e eq => ?_)
    · rw [entry, Option.some.injEq] at eq
      rw [← eq]
      nofun
    · rw [Option.some.injEq] at eq
      rw [← eq]
      nofun
  · exact jobsOf_tail_of_ne queue left (by rw [owner]; nofun)
  · have none := law.no_job_left queue left
    rw [owner] at none
    refine ⟨fun home i h => ?_, fun i e eq owns => ?_, 0, by omega, ?_⟩
    · rw [retire] at h
      cases h
    · rw [at_] at eq
      rw [retire]
      split_ifs at eq with here
      · rw [Option.some.injEq] at eq
        rw [← eq]
        exact ⟨rfl, nofun, nofun⟩
      · obtain ⟨park, copying⟩ := law.command.owned i e eq owns
        refine ⟨park, fun state => ?_, nofun⟩
        rw [outstanding] at copying
        exact absurd (Prod.mk.inj (Option.some.inj (copying.mp state))).2.symm here
    · rw [none, retire]
      rfl

/-- The RETIRE job is the one its abandonment finds (R110, R112). -/
theorem Bound.abandonJob_retire (law : Bound s) {home : Row} {i : ReservedIndex}
    (outstanding : s.copy.retire = some (home, i)) :
    ∃ engine, abandonJob isRetire s = { s with
      redirects := Sparse.erase i.val s.redirects
      copy := { s.copy with queue := s.copy.queue.eraseP isRetire, engine := engine } } := by
  obtain ⟨progress, -, eq⟩ := law.command.jobs
  rw [outstanding] at eq
  have listed : CopyJob.mk .retire home i .command progress ∈ jobsOf s .command := by
    rw [eq]
    exact List.mem_singleton_self _
  obtain ⟨none, -⟩ | ⟨j, engine, first, changed, -⟩ := abandonJob_cases s isRetire
  · have := List.find?_eq_none.mp none _ (mem_jobsOf.mp listed).1
    exact absurd rfl this
  · have mem := List.mem_of_find?_eq_some first
    have owner : j.owner = .command := by
      have isRetire := List.find?_some first
      exact (law.isRetire_iff mem).mp isRetire
    have found := mem_jobsOf.mpr ⟨mem, owner⟩
    rw [eq, retireJobs, List.mem_singleton] at found
    rw [found] at changed
    exact ⟨engine, changed⟩

/-- The retire outstanding is given up with its job and its entry (R115). -/
theorem Bound.of_retireStopped (law : Bound s) : Bound (abandonRetire s) := by
  cases outstanding : s.copy.retire with
  | none =>
    obtain ⟨progress, -, eq⟩ := law.command.jobs
    rw [outstanding] at eq
    have kept : abandonJob isRetire s = s := by
      obtain ⟨-, kept⟩ | ⟨j, _, first, -⟩ := abandonJob_cases s isRetire
      · exact kept
      · have mem := List.mem_of_find?_eq_some first
        have listed := mem_jobsOf.mpr ⟨mem, (law.isRetire_iff mem).mp (List.find?_some first)⟩
        rw [eq] at listed
        cases listed
    unfold abandonRetire
    rw [kept]
    refine law.update (redirectLaw_congr rfl rfl law.table) (fun m => .inr ⟨⟨rfl, rfl, rfl⟩, fun i e _ => Iff.rfl, rfl⟩)
      (.inr ⟨outstanding.symm, fun i e _ => Iff.rfl, rfl⟩)
  | some pair =>
    obtain ⟨home, i⟩ := pair
    have entry := law.command.entry _ _ outstanding
    obtain ⟨engine, abandoned⟩ := law.abandonJob_retire outstanding
    obtain ⟨progress, -, only⟩ := law.command.jobs
    rw [outstanding] at only
    unfold abandonRetire
    rw [abandoned]
    dsimp only
    generalize eq : ({ s with redirects := _, copy := _ } : State) = t
    have redirects : t.redirects = Sparse.erase i.val s.redirects := by rw [← eq]
    have queue : t.copy.queue = s.copy.queue.eraseP isRetire := by rw [← eq]
    have retire : t.copy.retire = none := by rw [← eq]
    have probes : t.probes = s.probes := by rw [← eq]
    have devices : t.deviceCount = s.deviceCount := by rw [← eq]
    have at_ : ∀ m, redirectAt t m = if m = i then none else redirectAt s m := fun m => by
      rw [redirectAt_congr (s := removeRedirect i s) redirects, redirectAt_removeRedirect]
    refine law.update (redirectLaw_erase _ law.table redirects devices) (fun m => .inr ⟨?_, ?_, ?_⟩) (.inl ?_)
    · rw [contextOf_congr_probes probes]
      exact ⟨rfl, rfl, rfl⟩
    · refine sameEntries_of_update at_ (fun e at_ => ?_) nofun
      rw [entry, Option.some.injEq] at at_
      rw [← at_]
      nofun
    · refine jobsOf_eraseP_of_mem queue fun j mem isRetire => ?_
      rw [(law.isRetire_iff mem).mp isRetire]
      nofun
    · refine ⟨fun home i h => ?_, fun m e found owns => ?_, 0, by omega, ?_⟩
      · rw [retire] at h
        cases h
      · rw [at_] at found
        rw [retire]
        split_ifs at found with here
        obtain ⟨park, copying⟩ := law.command.owned m e found owns
        refine ⟨park, fun state => ?_, nofun⟩
        rw [outstanding] at copying
        exact absurd (Prod.mk.inj (Option.some.inj (copying.mp state))).2.symm here
      · rw [jobsOf_eraseP_same queue only fun j mem => law.isRetire_iff mem, retire]
        rfl

/-- The head job's progress rises (R106). -/
theorem Bound.of_progressed (law : Bound s) {j : CopyJob} {rest : List CopyJob} (queue : s.copy.queue = j :: rest)
    (more : j.progress + 1 < 8) : Bound (jobTaken ({ j with progress := j.progress + 1 } :: rest) s) := by
  have jobs : ∀ o, jobsOf (jobTaken ({ j with progress := j.progress + 1 } :: rest) s) o =
      if j.owner = o then { j with progress := j.progress + 1 } :: rest.filter (fun j => j.owner == o)
      else jobsOf s o := fun o => by
    simp only [jobsOf, jobTaken, queue, List.filter_cons, beq_iff_eq]
    split_ifs <;> rfl
  have before : ∀ o, j.owner = o → jobsOf s o = j :: rest.filter (fun j => j.owner == o) := fun o owner => by
    simp [jobsOf, queue, owner]
  refine law.update (redirectLaw_congr rfl rfl law.table) (fun m => ?_) ?_
  · by_cases own : j.owner = .context m
    · refine .inl ⟨(law.context m).entry, (law.context m).owned, j.progress + 1, more, ?_⟩
      obtain ⟨progress, -, eq⟩ := (law.context m).jobs
      rw [jobs, if_pos own]
      rw [before _ own] at eq
      change _ = contextJobs m (contextOf s m) (j.progress + 1)
      unfold contextJobs at eq ⊢
      split at eq <;> simp_all
    · exact .inr ⟨⟨rfl, rfl, rfl⟩, fun i e _ => Iff.rfl, by rw [jobs, if_neg own]⟩
  · by_cases own : j.owner = .command
    · refine .inl ⟨law.command.entry, law.command.owned, j.progress + 1, more, ?_⟩
      obtain ⟨progress, -, eq⟩ := law.command.jobs
      rw [jobs, if_pos own]
      rw [before _ own] at eq
      change _ = retireJobs s.copy.retire (j.progress + 1)
      unfold retireJobs at eq ⊢
      split at eq <;> simp_all
    · exact .inr ⟨rfl, fun i e _ => Iff.rfl, by rw [jobs, if_neg own]⟩

/-- A row is bound to a free spare without a copy (R174). -/
theorem Bound.of_spared (law : Bound s) {row : Row} {i : ReservedIndex} (free : rowFree s row = true)
    (unused : indexFree s i = true) :
    Bound (retireRecord row i (setRedirect i { home := row, state := .spareActive, owner := .command } s)) := by
  obtain ⟨present, empty⟩ := indexFree_iff.mp unused
  have redirects : (retireRecord row i (setRedirect i { home := row, state := .spareActive, owner := .command } s)).redirects
      = Sparse.insert i.val { home := row, state := .spareActive, owner := .command } s.redirects := by
    rw [retireRecord_redirects, setRedirect_redirects]
  have copy : (retireRecord row i (setRedirect i { home := row, state := .spareActive, owner := .command } s)).copy =
      s.copy := by
    rw [retireRecord_copy, setRedirect_copy]
  have probes : (retireRecord row i (setRedirect i { home := row, state := .spareActive, owner := .command } s)).probes =
      s.probes := by
    rw [retireRecord_probes, setRedirect_probes]
  have devices : (retireRecord row i
      (setRedirect i { home := row, state := .spareActive, owner := .command } s)).deviceCount = s.deviceCount :=
    (retireRecord_jobChange _ _ _).deviceCount
  generalize retireRecord row i (setRedirect i { home := row, state := .spareActive, owner := .command } s) = t
    at redirects copy probes devices ⊢
  have at_ : ∀ m, redirectAt t m = if m = i then some { home := row, state := .spareActive, owner := .command }
      else redirectAt s m := fun m => by
    rw [redirectAt_congr (s := setRedirect i { home := row, state := .spareActive, owner := .command } s) redirects,
      redirectAt_setRedirect]
  have jobs : ∀ o, jobsOf t o = jobsOf s o := jobsOf_congr (by rw [copy])
  refine law.update
    (redirectLaw_insert law.table redirects devices present fun m f _ eq => no_entry_of_free law.table free eq)
    (fun m => .inr ⟨?_, sameEntries_of_update at_ (fun e eq => ?_) (fun e eq => ?_), jobs _⟩) (.inl ?_)
  · rw [contextOf_congr_probes probes]
    exact ⟨rfl, rfl, rfl⟩
  · rw [empty] at eq
    cases eq
  · rw [Option.some.injEq] at eq
    rw [← eq]
    nofun
  · refine ⟨fun home m h => ?_, fun m e eq owns => ?_, by rw [jobs, copy]; exact law.command.jobs⟩
    · rw [copy] at h
      have listed := law.command.entry home m h
      rw [at_, if_neg fun here => ?_, listed]
      rw [here, empty] at listed
      cases listed
    · rw [copy]
      rw [at_] at eq
      split_ifs at eq with here
      · rw [Option.some.injEq] at eq
        rw [← eq]
        refine ⟨rfl, nofun, fun h => ?_⟩
        have listed := law.command.entry _ m h
        rw [here, empty] at listed
        cases listed
      · exact law.command.owned m e eq owns

/-! ### The starts -/

/-- An accepted PROBE START parks a free row (R120). -/
theorem Bound.of_probeStart (law : Bound s) {o : ProbeOperand} {mode : ProbeMode} {pattern : Pattern} {k : ContextId}
    {i : ReservedIndex} (free : rowFree s o.target = true) (idle : (contextOf s k).state = .idle)
    (unused : indexFree s i = true) : Bound (startProbe o mode pattern k i s) := by
  obtain ⟨present, empty⟩ := indexFree_iff.mp unused
  have context : ∀ m, contextOf (startProbe o mode pattern k i s) m =
      if m = k then startedContext o mode pattern i (contextOf s k) else contextOf s m :=
    fun m => contextOf_setContext _ k m _
  have redirects : (startProbe o mode pattern k i s).redirects =
      Sparse.insert i.val { home := o.target, state := .parkCopying, owner := .context k } s.redirects := rfl
  have queue : (startProbe o mode pattern k i s).copy.queue = s.copy.queue ++
      [{ kind := .park, home := o.target, index := i, owner := .context k, progress := 0 }] := rfl
  have retire : (startProbe o mode pattern k i s).copy.retire = s.copy.retire := rfl
  have devices : (startProbe o mode pattern k i s).deviceCount = s.deviceCount := rfl
  generalize startProbe o mode pattern k i s = t at context redirects queue retire devices ⊢
  have at_ : ∀ m, redirectAt t m = if m = i then some { home := o.target, state := .parkCopying, owner := .context k }
      else redirectAt s m := fun m => by
    rw [redirectAt_congr (s := setRedirect i { home := o.target, state := .parkCopying, owner := .context k } s) redirects,
      redirectAt_setRedirect]
  have others : ∀ p, p ≠ .context k → SameOwned p s t := fun p other => by
    refine ⟨sameEntries_of_update at_ (fun e eq => ?_) (fun e eq => ?_), ?_⟩
    · rw [empty] at eq
      cases eq
    · rw [Option.some.injEq] at eq
      rw [← eq]
      exact other.symm
    · rw [jobsOf_append queue, if_neg other.symm, List.append_nil]
  refine law.update
    (redirectLaw_insert law.table redirects devices present fun m f _ eq => no_entry_of_free law.table free eq)
    (fun m => ?_) (.inr ⟨retire, others _ nofun⟩)
  by_cases h : m = k
  · subst h
    have own : contextOf t m = startedContext o mode pattern i (contextOf s m) := by rw [context, if_pos rfl]
    refine .inl (.of_entry (state := .parkCopying) (by rw [own]; rfl) ?_ (fun n e eq owner => ?_) ⟨0, by omega, ?_⟩)
    · rw [own, at_]
      exact if_pos rfl
    · rw [own]
      rw [at_] at eq
      split_ifs at eq with here
      · exact here
      · have active := ((law.context m).owned n e eq owner).1
        rw [idle] at active
        cases active
    · obtain ⟨progress, -, eq⟩ := (law.context m).jobs
      rw [contextJobs, idle] at eq
      rw [jobsOf_append queue, eq, own]
      simp [contextJobs, startedContext, ContextState.park]
  · exact .inr ⟨by rw [context, if_neg h]; exact ⟨rfl, rfl, rfl⟩, others _ fun eq => h (Owner.context.inj eq)⟩

/-- An accepted RETIRE copies a free row to its spare (R112). -/
theorem Bound.of_retireStart (law : Bound s) {home : Row} {i : ReservedIndex} (free : rowFree s home = true)
    (single : s.copy.retire = none) (unused : indexFree s i = true) : Bound (startRetire home i s) := by
  obtain ⟨present, empty⟩ := indexFree_iff.mp unused
  have context : ∀ m, contextOf (startRetire home i s) m = contextOf s m := fun _ => rfl
  have redirects : (startRetire home i s).redirects =
      Sparse.insert i.val { home := home, state := .spareCopying, owner := .command } s.redirects := rfl
  have queue : (startRetire home i s).copy.queue = s.copy.queue ++
      [{ kind := .retire, home := home, index := i, owner := .command, progress := 0 }] := rfl
  have retire : (startRetire home i s).copy.retire = some (home, i) := rfl
  have devices : (startRetire home i s).deviceCount = s.deviceCount := rfl
  generalize startRetire home i s = t at context redirects queue retire devices ⊢
  have at_ : ∀ m, redirectAt t m = if m = i then some { home := home, state := .spareCopying, owner := .command }
      else redirectAt s m := fun m => by
    rw [redirectAt_congr (s := setRedirect i { home := home, state := .spareCopying, owner := .command } s) redirects,
      redirectAt_setRedirect]
  refine law.update
    (redirectLaw_insert law.table redirects devices present fun m f _ eq => no_entry_of_free law.table free eq)
    (fun m => .inr ⟨by rw [context]; exact ⟨rfl, rfl, rfl⟩, sameEntries_of_update at_ (fun e eq => ?_) (fun e eq => ?_), ?_⟩)
    (.inl ⟨fun h n outstanding => ?_, fun m e eq owns => ?_, 0, by omega, ?_⟩)
  · rw [empty] at eq
    cases eq
  · rw [Option.some.injEq] at eq
    rw [← eq]
    nofun
  · rw [jobsOf_append queue, if_neg nofun, List.append_nil]
  · rw [retire] at outstanding
    cases outstanding
    rw [at_, if_pos rfl]
  · rw [retire]
    rw [at_] at eq
    split_ifs at eq with here
    · rw [Option.some.injEq] at eq
      rw [← eq, here]
      exact ⟨rfl, fun _ => rfl, fun _ => rfl⟩
    · obtain ⟨park, copying⟩ := law.command.owned m e eq owns
      rw [single] at copying
      refine ⟨park, fun state => ?_, fun outstanding => ?_⟩
      · exact absurd (copying.mp state) nofun
      · rw [Option.some.injEq, Prod.mk.injEq] at outstanding
        exact absurd outstanding.2.symm here
  · obtain ⟨progress, -, eq⟩ := law.command.jobs
    rw [single] at eq
    rw [jobsOf_append queue, eq, if_pos rfl, retire]
    rfl

/-! ### Every move -/

/-- A change of an entry reads and writes the redirect table alone. -/
theorem changeRedirect_redirects_congr {i : ReservedIndex} {state : RedirectState} {owner : Owner}
    (redirects : t.redirects = s.redirects) :
    (changeRedirect i state owner t).redirects = (changeRedirect i state owner s).redirects := by
  unfold changeRedirect
  rw [redirectAt_congr redirects]
  cases redirectAt s i with
  | none => exact redirects
  | some e => rw [setRedirect_redirects, setRedirect_redirects, redirects]

theorem Bound.of_move (law : Bound s) (move : Move s t) : Bound t := by
  cases move with
  | quiet same => exact law.of_quiet same
  | departed r =>
    have frame := (departDue_departure (s := s) r).frame
    exact law.of_records (t := departDue r s) (by rw [frame]) (by rw [frame]) (by rw [frame]) (by rw [frame])
  | appended row stamp absent status => exact law.of_records rfl rfl rfl rfl
  | rewritten row record old new queued fits => exact law.of_records rfl rfl rfl rfl
  | returned k c held target parkIndex prior outcome fits => exact law.of_returned held target parkIndex
  | converted k c held target parkIndex fits ends => exact law.of_converted held target parkIndex ends
  | stopped k c parking target parkIndex fits ends => exact law.of_stopped parking ends
  | parked k j rest queue owner kind => exact law.of_parked queue owner kind
  | restored k j rest queue owner kind ends => exact law.of_restored queue owner kind ends
  | progressed j rest queue more => exact law.of_progressed queue more
  | retired j rest queue kind =>
    refine law.of_retired queue kind ?_ ?_ rfl rfl ?_
    · exact (retireRecord_redirects j.home j.index).trans (changeRedirect_redirects_congr rfl)
    · exact (retireRecord_jobChange _ j.home j.index).deviceCount.trans (by rw [changeRedirect_eq]; rfl)
    · exact (retireRecord_probes j.home j.index).trans (changeRedirect_probes _ _ _)
  | retireStopped => exact law.of_retireStopped
  | spared row i free unused => exact law.of_spared free unused

theorem Bound.of_moves (law : Bound s) (moves : Moves s t) : Bound t := by
  induction moves with
  | refl => exact law
  | tail _ move ih => exact ih.of_move move

end Sys2Proof.Machine
end

section
/-! PROOFS. Quiet changes, derived outcomes and aborts as moves. -/

namespace Sys2Proof.Machine

open Sys2Proof

variable {s t u : State}

/-! ### Quiet changes -/

theorem SameCourse.refl (c : ProbeContext) : SameCourse c c := ⟨rfl, rfl, rfl, rfl, fun h => ⟨h, fun _ => rfl⟩, id⟩

/-- A context's counters, pattern register and timer are none of the laws' concern. -/
theorem SameCourse.of_counters {c d : ProbeContext} (state : d.state = c.state) (target : d.target = c.target)
    (parkIndex : d.parkIndex = c.parkIndex) (prior : d.prior = c.prior) (outcome : d.outcome = c.outcome)
    (reason : d.abortReason = c.abortReason) (mode : d.mode = c.mode) (step : d.step = c.step)
    (lastPassed : d.lastPassed = c.lastPassed) : SameCourse c d := by
  refine ⟨by rw [state], target, parkIndex, prior, fun h => ⟨reason ▸ h, fun _ => outcome⟩, ?_⟩
  unfold contextFits stepsFit priorFits outcomeFits
  rw [state, prior, outcome, mode, step, lastPassed]
  exact id

theorem Quiet.moves (same : Quiet s t) : Moves s t := .single (.quiet same)

/-- A change of the other parts of the state. -/
theorem Moves.of_eq (same :
    (t.records, t.scheduler.due, t.scheduler.epoch, t.redirects, t.deviceCount, t.copy.queue, t.copy.retire, t.probes.contexts) =
      (s.records, s.scheduler.due, s.scheduler.epoch, s.redirects, s.deviceCount, s.copy.queue, s.copy.retire,
        s.probes.contexts)) : Moves s t := by
  simp only [Prod.mk.injEq] at same
  obtain ⟨records, due, epoch, redirects, deviceCount, queue, retire, contexts⟩ := same
  exact Quiet.moves ⟨records, due, by rw [epoch]; exact id, redirects, deviceCount, queue, retire,
    fun k => by rw [contextOf_congr contexts]; exact .refl _⟩

/-- One context alone changes, on its course. -/
theorem Moves.of_setContext {k : ContextId} {c : ProbeContext} (course : SameCourse (contextOf s k) c) :
    Moves s (setContext k c s) := by
  refine Quiet.moves ⟨rfl, rfl, id, rfl, rfl, rfl, rfl, fun m => ?_⟩
  rw [contextOf_setContext]
  split_ifs with h
  · rw [h]
    exact course
  · exact .refl _

theorem raiseEvent_moves (flag : EventFlag) : Moves s (raiseEvent flag s) := .of_eq rfl

theorem testUnwind_moves : Moves s (testUnwind s) := by
  obtain ⟨-, h⟩ | ⟨-, h⟩ := testUnwind_cases s <;> rw [h]
  exact .of_eq rfl

/-! ### Outcomes -/

theorem classAllowed_iff {cls margin : Nat} : classAllowed cls margin = true ↔ ∃ k, allowedClass margin = some k ∧ cls ≤ k := by
  unfold classAllowed
  cases allowedClass margin <;> simp

/-- The records that a probe's end gives lie within the domains of their status, and but for RETIRED are open (R140 to R143). -/
theorem deriveOutcome_record (auto : Bool) (c : ProbeContext) : ∃ o, (deriveOutcome auto c).record = some o ∧
    ((deriveOutcome auto c).name ≠ .retired → o.status.open = true) ∧
    (stepsFit c → priorFits c → classAndMarginFit o.status o.cls o.margin = true) := by
  refine ⟨_, rfl, ?_⟩
  have weak : ∀ out, out = weakOutcome auto → (out.1 ≠ .retired → out.2.status.open = true) ∧
      classAndMarginFit out.2.status out.2.cls out.2.margin = true := by
    rintro _ rfl
    unfold weakOutcome
    cases auto <;> decide
  have profiled : ∀ {k m}, allowedClass m = some k → m ≤ 16 → classAndMarginFit .profiled k m = true := by
    intro k m allowed small
    simp [classAndMarginFit, classAllowed_iff, allowed, small]
  unfold deriveOutcome
  dsimp only
  cases c.mode with
  | search =>
    dsimp only
    unfold searchOutcome
    cases allowed : allowedClass c.lastPassed with
    | some k => exact ⟨fun _ => rfl, fun steps _ => profiled allowed steps.2.1⟩
    | none => exact ⟨(weak _ rfl).1, fun _ _ => (weak _ rfl).2⟩
  | check =>
    cases c.failingStep with
    | some step =>
      dsimp only
      unfold failedCheckOutcome
      split_ifs
      · exact ⟨(weak _ rfl).1, fun _ _ => (weak _ rfl).2⟩
      · exact ⟨fun _ => rfl, fun _ _ => rfl⟩
    | none =>
      dsimp only
      unfold passedCheckOutcome
      have prior : priorFits c → classAndMarginFit (priorOf c).status (priorOf c).cls (priorOf c).margin = true :=
        fun fits => by
          unfold priorOf
          cases h : c.prior with
          | none => rfl
          | some p => exact (fits p h).1
      generalize priorOf c = p at prior ⊢
      split
      · rename_i status
        split_ifs with guarded
        · refine ⟨fun _ => rfl, fun steps fits => ?_⟩
          have old := prior fits
          simp only [status, classAndMarginFit, Bool.and_eq_true, decide_eq_true_eq] at old
          obtain ⟨k, allowed, le⟩ := exists_allowedClass_ge_of_guarded (k := p.cls) (m := max p.margin c.lastPassed)
            (by
              obtain ⟨k, allowed, le⟩ := classAllowed_iff.mp old.1
              exact le.trans (margin_bounds_of_allowedClass allowed).1)
            (guarded.trans (le_max_right _ _))
          have steps := steps.2.1
          simp only [profiledOutcome, classAndMarginFit, Bool.and_eq_true, classAllowed_iff]
          exact ⟨⟨k, allowed, le⟩, decide_eq_true (max_le old.2 steps)⟩
        · cases allowed : allowedClass c.lastPassed with
          | some k => exact ⟨fun _ => rfl, fun steps _ => profiled allowed steps.2.1⟩
          | none => exact ⟨fun _ => rfl, fun _ _ => rfl⟩
      · cases allowed : allowedClass c.lastPassed with
        | some k => exact ⟨fun _ => rfl, fun steps _ => profiled allowed steps.2.1⟩
        | none => exact ⟨fun _ => rfl, fun _ _ => rfl⟩
      all_goals
        cases allowed : allowedClass c.lastPassed with
        | some k => exact ⟨fun _ => rfl, fun steps _ => profiled allowed steps.2.1⟩
        | none => exact ⟨fun _ => rfl, fun _ _ => rfl⟩

theorem outcomeFits_aborted : outcomeFits (some abortedOutcome) := fun _ h => by cases h

/-! ### Aborts -/

/-- An abort of a context that runs is a return of its row (R136). -/
theorem abortRunning_moves (reason : AbortReason) {k : ContextId} (held : (contextOf s k).state.park = some .parkHeld) :
    Moves s (abortRunning reason k s) := by
  refine .single (.returned k { contextOf s k with abortReason := some reason, stretchTimer := .stopped } held rfl rfl rfl
    nofun fun fits => ?_)
  obtain ⟨steps, prior, outcome⟩ := fits
  exact ⟨⟨steps.1, steps.2.1, fun h => by simp at h⟩, prior, outcome⟩

theorem abortParking_ends (reason : AbortReason) (k : ContextId) :
    Ends k (setContext k { contextOf s k with abortReason := some reason } (abandonJob (isParkOf k) s))
      (abortParking reason k s) := by
  have same : contextOf (abandonJob (isParkOf k) s) k = contextOf s k := contextOf_congr_probes (abandonJob_probes _) k
  have ends : ∀ v : State, Ends k v (match reason with
      | .reset => setContext k { contextOf v k with state := .idle, outcome := none } v
      | .host => enterDone k abortedOutcome v
      | .thermal => enterDone k abortedOutcome v) := fun v => by
    cases reason with
    | reset => exact .reset
    | host => exact .done _ fun _ => outcomeFits_aborted
    | thermal => exact .done _ fun _ => outcomeFits_aborted
  rw [← same]
  exact ends _

theorem abortParking_moves (reason : AbortReason) {k : ContextId} (parking : (contextOf s k).state = .parking) :
    Moves s (abortParking reason k s) :=
  .single (.stopped k { contextOf s k with abortReason := some reason } (ContextState.park_eq_parkCopying.mpr parking) rfl rfl id
    (abortParking_ends reason k))

/-- An abort is moves, by the state of its context (Table 7-3). -/
theorem abortContext_moves (reason : AbortReason) (k : ContextId) : Moves s (abortContext reason k s) := by
  unfold abortContext
  split
  · exact abortParking_moves reason ‹_›
  · exact abortRunning_moves reason (ContextState.park_eq_parkHeld.mpr (.inl ‹_›))
  · exact abortRunning_moves reason (ContextState.park_eq_parkHeld.mpr (.inr (.inl ‹_›)))
  · exact abortRunning_moves reason (ContextState.park_eq_parkHeld.mpr (.inr (.inr ‹_›)))
  · split_ifs
    · exact .of_setContext ⟨rfl, rfl, rfl, rfl, nofun, id⟩
    · exact .refl
  · rename_i done
    split_ifs
    · refine .of_setContext ⟨by rw [done]; rfl, rfl, rfl, rfl, fun h => ⟨h, fun own => ?_⟩, fun fits => ?_⟩
      · rw [done] at own
        cases own
      · obtain ⟨steps, prior, -⟩ := fits
        exact ⟨⟨steps.1, steps.2.1, fun h => by simp at h⟩, prior, fun _ h => by cases h⟩
    · exact .refl
  · exact .refl

theorem abortAll_moves (reason : AbortReason) : Moves s (abortAll reason s) := by
  unfold abortAll
  generalize allContexts = l
  induction l generalizing s with
  | nil => exact .refl
  | cons k rest ih => exact (abortContext_moves reason k).trans ih

end Sys2Proof.Machine
end

section
/-! PROOFS. The moves of readings, scans, bursts, copy jobs and grants. -/

namespace Sys2Proof.Machine

open Sys2Proof

variable {s t u : State}

/-! ### Readings, passes and scans -/

theorem enterThermal_moves (new : ThermalState) : Moves s (enterThermal new s) := by
  obtain ⟨-, h⟩ | ⟨-, -, h⟩ | ⟨-, -, h⟩ := enterThermal_cases s new <;> rw [h]
  · exact .of_eq rfl
  · have entered : Moves s (raiseEvent .thermalChange { s with supervisor := { s.supervisor with thermal := new } }) :=
      .of_eq rfl
    exact entered.trans (abortAll_moves _)

theorem readingArrives_moves (reading : Int) : Moves s (readingArrives reading s) := by
  unfold readingArrives
  dsimp only
  generalize (if s.supervisor.window.length < Config.windowReadings then s.supervisor.window
    else s.supervisor.window.drop 1) ++ [reading] = window
  have arrived : Moves s { s with supervisor := { s.supervisor with window := window, lastReading := some reading } } :=
    .of_eq rfl
  split_ifs
  · exact arrived
  · exact arrived.trans (enterThermal_moves _)

theorem testSensorTimeout_moves : Moves s (testSensorTimeout s) := by
  unfold testSensorTimeout sensorTimeout
  split_ifs
  · have emptied : Moves s { s with supervisor := { s.supervisor with window := [], stale := 0 } } := .of_eq rfl
    exact (emptied.trans (enterThermal_moves .hot)).trans (raiseEvent_moves _)
  · exact .refl

theorem supervisorPassStart_moves : Moves s (supervisorPassStart s) := by
  unfold supervisorPassStart
  split_ifs
  · have counted : Moves s { s with supervisor := { s.supervisor with stale := s.supervisor.stale + 1 } } := .of_eq rfl
    exact counted.trans testSensorTimeout_moves
  · split
    · exact .of_eq rfl
    · exact .refl

/-- The scheduler's own quantities: the epoch counter stays within its range (R50). -/
theorem Moves.of_scheduler {v : Scheduler} (due : v.due = s.scheduler.due)
    (epoch : s.scheduler.epoch < 256 → v.epoch < 256) : Moves s { s with scheduler := v } :=
  Quiet.moves ⟨rfl, due, epoch, rfl, rfl, rfl, rfl, fun _ => .refl _⟩

theorem takeExpiry_moves : Moves s (takeExpiry s) := by
  have pass : Moves s (expiryPass s) := by
    unfold expiryPass
    dsimp only
    split
    · unfold passStart
      dsimp only
      refine Relation.ReflTransGen.trans ?_ supervisorPassStart_moves
      refine Moves.of_scheduler rfl fun small => ?_
      dsimp only
      split_ifs
      · exact Nat.mod_lt _ (by omega)
      · exact small
    · exact .of_eq rfl
  refine pass.trans (Moves.of_eq ?_)
  have due : (takeExpiry s).scheduler.due = (expiryPass s).scheduler.due := by
    rw [takeExpiry_scheduler, expiryPass_scheduler_eq]
  have epoch : (takeExpiry s).scheduler.epoch = (expiryPass s).scheduler.epoch := by rw [takeExpiry_scheduler]
  rw [due, epoch]
  rw [takeExpiry_eq_expiryPass]

theorem releaseHeld_moves : Moves s (releaseHeld s) := by
  obtain ⟨-, -, eq⟩ | ⟨-, eq⟩ := releaseHeld_cases (s := s) <;> rw [eq]
  · exact takeExpiry_moves.trans (Moves.of_eq rfl)

theorem testForced_moves : Moves s (testForced s) := by
  rw [testForced_eq]
  exact .of_eq rfl

theorem advanceScan_moves (c : ScanCursor) : Moves s (advanceScan c s) := by
  obtain ⟨-, eq⟩ | ⟨-, -, eq⟩ | ⟨-, -, eq⟩ := advanceScan_cases (s := s) c <;> rw [eq]
  · exact .of_eq rfl
  · exact .of_eq rfl
  · rw [endScan_eq]
    have ended : Moves s (scanEnded c s) := .of_eq rfl
    exact (ended.trans releaseHeld_moves).trans testForced_moves

theorem ageDemotion_moves (row : Row) : Moves s (ageDemotion row s) := by
  obtain ⟨profiled, -, h⟩ | ⟨-, h⟩ := ageDemotion_cases s row <;> rw [h]
  · have rewritten := Move.rewritten (s := s) row
      { recordOf s row with status := .unprofiled, cls := 0, margin := 0, stamp := none, spare := none }
      (by rw [profiled]; rfl) rfl rfl fun _ => ⟨rfl, rfl, rfl, fun h => by simp at h⟩
    exact (Relation.ReflTransGen.single rewritten).trans (raiseEvent_moves _)

theorem visitRow_moves (c : ScanCursor) : Moves s (visitRow c s) := by
  obtain ⟨-, -, -, eq⟩ | ⟨due, absent, -, eq⟩ | ⟨-, eq⟩ := visitRow_cases (s := s) c <;> rw [eq]
  · refine (ageDemotion_moves c.visited).trans (Moves.of_scheduler ?_ ?_) <;>
      obtain ⟨_, _, aged⟩ := ageDemotion_eq (s := s) c.visited <;> rw [aged]
    exact id
  · refine ((ageDemotion_moves c.visited).tail (.appended _ _ absent ?_)).trans (advanceScan_moves c)
    unfold isDue at due
    generalize (recordOf (ageDemotion c.visited s) c.visited).status = status at due
    cases status <;> simp_all
  · exact (ageDemotion_moves c.visited).trans (advanceScan_moves c)

/-! ### Bursts -/

theorem patternBurstResult_moves (k : ContextId) : Moves s (patternBurstResult k s) := by
  unfold patternBurstResult
  dsimp only
  split
  · rename_i writing
    split_ifs
    · exact .of_setContext (.of_counters rfl rfl rfl rfl rfl rfl rfl rfl rfl)
    · refine .of_setContext ⟨by rw [writing]; rfl, rfl, rfl, rfl, fun h => ⟨h, fun _ => rfl⟩, fun fits => ?_⟩
      obtain ⟨steps, prior, outcome⟩ := fits
      exact ⟨⟨steps.1, steps.2.1, fun _ => steps.2.2 (.inr (.inr (.inl writing)))⟩, prior, outcome⟩
  all_goals exact .refl

/-- A finish from CHECKING: the park becomes a spare or the row is brought home (R132). -/
theorem finishProbe_moves {k : ContextId} (c : ProbeContext) (checking : (contextOf s k).state = .checking)
    (target : c.target = (contextOf s k).target) (parkIndex : c.parkIndex = (contextOf s k).parkIndex)
    (prior : c.prior = (contextOf s k).prior)
    (fits : contextFits (contextOf s k) → contextFits c) : Moves s (finishProbe k (setContext k c s)) := by
  have held := ContextState.park_eq_parkHeld.mpr (.inr (.inr checking))
  obtain ⟨o, record, opened, recordFit⟩ := deriveOutcome_record s.config.autoRetire c
  have derivedFits : contextFits (contextOf s k) →
      outcomeFits (some (deriveOutcome s.config.autoRetire c)) := fun old o' h => by
    obtain ⟨steps, priorFit, -⟩ := fits old
    rw [Option.bind_some, record, Option.some.injEq] at h
    rw [← h]
    exact recordFit steps priorFit
  have derived : contextFits (contextOf s k) →
      contextFits { c with outcome := some (deriveOutcome s.config.autoRetire c) } := fun old =>
    ⟨(fits old).1, (fits old).2.1, derivedFits old⟩
  unfold finishProbe
  simp only [contextOf_setContext_same, setContext_setContext, setContext_config]
  split_ifs with retired
  · rw [convert_eq, contextOf_setContext_same]
    refine .single (.converted k { c with outcome := some (deriveOutcome s.config.autoRetire c) } held target parkIndex
      derived (.done _ fun fit => ?_))
    rw [contextOf_congr_probes (retireRecord_probes _ _), contextOf_congr_probes (changeRedirect_probes _ _ _),
      contextOf_setContext_same] at fit
    exact fit.2.2
  · refine .single (.returned k { c with outcome := some (deriveOutcome s.config.autoRetire c) } held target parkIndex prior
      (fun _ => ⟨o, record, opened retired⟩) fun old => ?_)
    obtain ⟨steps, priorFit, outcome⟩ := derived old
    exact ⟨⟨steps.1, steps.2.1, fun h => by simp at h⟩, priorFit, outcome⟩

theorem checkBurstResult_moves (k : ContextId) (differing : List Nat) : Moves s (checkBurstResult k differing s) := by
  unfold checkBurstResult
  split
  · rename_i checking
    dsimp only
    have counted : Moves s (setContext k (countBurst differing (contextOf s k)) s) :=
      .of_setContext (.of_counters rfl rfl rfl rfl rfl rfl rfl rfl rfl)
    have still : (contextOf (setContext k (countBurst differing (contextOf s k)) s) k).state = .checking := by
      simp [countBurst, checking]
    split_ifs
    · exact counted
    · refine Relation.ReflTransGen.trans counted ?_
      generalize setContext k (countBurst differing (contextOf s k)) s = v at still
      unfold endTrial
      dsimp only
      split_ifs with _ _ search
      · refine Moves.of_setContext ⟨by rw [still]; rfl, rfl, rfl, rfl, fun h => ⟨h, fun _ => rfl⟩, fun fits => ?_⟩
        obtain ⟨steps, prior, outcome⟩ := fits
        exact ⟨⟨steps.1, steps.2.1, fun _ => steps.2.2 (.inl still)⟩, prior, outcome⟩
      · refine Moves.of_setContext ⟨by rw [still]; rfl, rfl, rfl, rfl, fun h => ⟨h, fun _ => rfl⟩, fun fits => ?_⟩
        obtain ⟨steps, prior, outcome⟩ := fits
        have ladder := steps.2.2 (.inl still) search.1
        have small := search.2
        refine ⟨⟨?_, ?_, fun _ _ => ?_⟩, prior, outcome⟩ <;> dsimp only <;> omega
      · refine finishProbe_moves _ still rfl rfl rfl fun fits => ?_
        obtain ⟨steps, prior, outcome⟩ := fits
        exact ⟨⟨steps.1, steps.1, steps.2.2⟩, prior, outcome⟩
      · exact finishProbe_moves _ still rfl rfl rfl id
  all_goals exact .refl

/-! ### Copy jobs -/

/-- A RESTORE job's end is the restored row and the end of its context (R108, R133). -/
theorem restoreDone_ends {k : ContextId} (restoring : (contextOf s k).state = .restoring) :
    Ends k (restoredRecord (contextOf s k) s) (restoreDone k s) := by
  have same : ∀ c, contextOf (restoredRecord c s) k = contextOf s k := fun c =>
    contextOf_congr_probes (restoredRecord_probes c) k
  unfold restoreDone
  simp only [restoring]
  cases aborted : (contextOf s k).abortReason with
  | none =>
    have record : restoredRecord (contextOf s k) s = applyOutcome (contextOf s k) s := by
      rw [restoredRecord, aborted]
    rw [record]
    refine .done _ fun fits => ?_
    rw [← record, same] at fits
    cases outcome : (contextOf s k).outcome with
    | none => exact outcomeFits_aborted
    | some o =>
      have := fits.2.2
      rwa [outcome] at this
  | some reason =>
    have record : restoredRecord (contextOf s k) s = reinstate (contextOf s k) s := by
      rw [restoredRecord, aborted]
    cases reason with
    | reset =>
      have ended : Ends k (restoredRecord (contextOf s k) s) _ := .reset
      rw [same, record] at ended
      rw [record]
      simpa only [aborted] using ended
    | host =>
      rw [record]
      exact .done _ fun _ => outcomeFits_aborted
    | thermal =>
      rw [record]
      exact .done _ fun _ => outcomeFits_aborted

/-- The end of a job's eighth burst is the move of its kind (R107 to R109). -/
theorem jobDone_moves (law : Bound s) {j : CopyJob} {rest : List CopyJob} (queue : s.copy.queue = j :: rest) :
    Moves s (jobDone j (jobTaken rest s)) := by
  obtain ⟨k, owner, home, index, ⟨kind, parking⟩ | ⟨kind, restoring⟩⟩ | ⟨owner, kind, outstanding⟩ := law.head_job queue
  · unfold jobDone
    rw [kind, owner]
    exact .single (.parked k j rest queue owner kind)
  · unfold jobDone
    rw [kind, owner]
    refine Relation.ReflTransGen.trans (.single (.restored k j rest queue owner kind ?_)) testUnwind_moves
    have state : (contextOf (removeRedirect j.index (jobTaken rest s)) k).state = .restoring :=
      ContextState.park_eq_parkRestoring.mp restoring
    exact restoreDone_ends state
  · unfold jobDone
    rw [kind]
    refine Relation.ReflTransGen.trans (.single (.retired j rest queue kind)) (Moves.of_eq ?_)
    have copy : (retireRecord j.home j.index
        (changeRedirect j.index .spareActive .command (jobTaken rest s))).copy = (jobTaken rest s).copy := by
      rw [retireRecord_copy, changeRedirect_copy]
    simp only [retireDone, copy]
    rfl

theorem copyBurstResult_moves (law : Bound s) : Moves s (copyBurstResult s) := by
  unfold copyBurstResult
  split
  · exact .refl
  · have freed : Moves s { s with copy := { s.copy with engine := .idle } } := .of_eq rfl
    have bound := law.of_moves freed
    dsimp only
    split_ifs
    · exact freed
    · refine freed.trans ?_
      generalize ({ s with copy := { s.copy with engine := .idle } } : State) = v at bound
      unfold advanceJob
      split
      · exact .refl
      · rename_i j rest queue
        split_ifs with more
        · exact .single (.progressed j rest queue more)
        · exact jobDone_moves bound queue

/-! ### Grants -/

theorem departIfQueued_moves (r : Row) : Moves s (departIfQueued r s) := by
  unfold departIfQueued
  split_ifs
  · exact .single (.departed r)
  · exact .refl

theorem activationCredit_moves (op : PortOperation) : Moves s (activationCredit op s) := by
  unfold activationCredit
  generalize op.activates = rows
  induction rows generalizing s with
  | nil => exact .refl
  | cons r rest ih => exact (departIfQueued_moves r).trans ih

theorem claimantEffects_moves {claim : Claim} {op : PortOperation} (granted : descriptor s claim = some op) :
    Moves s (claimantEffects claim s) := by
  cases claim with
  | refresh urgent =>
    obtain ⟨e, rest, head, -⟩ := refresh_descriptor granted
    rw [claimantEffects, takeRefreshHead_eq head]
    have busy : Moves s { s with scheduler := { s.scheduler with refreshing := true } } := .of_eq rfl
    exact busy.tail (.departed e.row)
  | request =>
    obtain ⟨q, rest, head, -⟩ := request_descriptor granted
    rw [claimantEffects, fillAccessRecord_eq head]
    exact .of_eq rfl
  | copy => exact .of_eq rfl
  | probe k =>
    refine .of_setContext ?_
    rw [advanceRegister_eq]
    split_ifs
    · exact .of_counters rfl rfl rfl rfl rfl rfl rfl rfl rfl
    · exact .refl _
  | close d => exact .refl
  | init => exact .refl

theorem arbitrate_moves : Moves s (arbitrate s) := by
  obtain ⟨eq, -⟩ | ⟨claim, op, -, -, granted, eq⟩ := arbitrate_grants (s := s) <;> rw [eq]
  · have effects := claimantEffects_moves granted
    unfold grantClaim
    simp only [granted]
    have opened : Moves (claimantEffects claim s) (openRowEffects op (claimantEffects claim s)) := by
      rw [openRowEffects_eq]
      exact .of_eq rfl
    refine ((effects.trans opened).trans ?_).trans (activationCredit_moves op)
    exact Moves.of_eq rfl

end Sys2Proof.Machine
end

section
/-! PROOFS. Every step as moves, starts and releases; the laws of probes and copies. -/

namespace Sys2Proof.Machine

open Sys2Proof

variable {s t u : State}

/-! ### What a step can do to records, entries, jobs and contexts -/

/-- A move, the start of a probe or of a retire, or a release of RSTIN#. -/
inductive Turn (s : State) : State → Prop
  | move {t : State} (move : Move s t) : Turn s t
  | probeStart (o : ProbeOperand) (mode : ProbeMode) (pattern : Pattern) (k : ContextId) (i : ReservedIndex)
      (step : stepValid mode o.step = true) (free : rowFree s o.target = true) (idle : (contextOf s k).state = .idle)
      (unused : indexFree s i = true) : Turn s (startProbe o mode pattern k i s)
  | retireStart (home : Row) (i : ReservedIndex) (free : rowFree s home = true) (single : s.copy.retire = none)
      (unused : indexFree s i = true) : Turn s (startRetire home i s)
  | released (straps : BitVec 2) : Turn s (releaseReset straps s)

/-- Any number of turns. -/
abbrev Turns : State → State → Prop := Relation.ReflTransGen Turn

theorem Moves.turns (moves : Moves s t) : Turns s t :=
  Relation.ReflTransGen.mono (r := Move) (fun _ _ => Turn.move) s t moves

/-- After a release the tables and the queue are empty and every context is IDLE (R117). -/
theorem Bound.of_release (straps : BitVec 2) : Bound (releaseReset straps s) := by
  have context : ∀ k, contextOf (releaseReset straps s) k = ProbeContext.atReset := Quad.get_all _
  refine ⟨⟨List.Pairwise.nil, nofun, List.nodup_nil, ?_⟩, fun k => ⟨?_, nofun, 0, by omega, ?_⟩, nofun, nofun, 0, by omega, rfl⟩
  · have := straps.isLt
    change straps.toNat + 1 ≤ 4
    omega
  · rw [context]
    nofun
  · rw [context]
    rfl

theorem Bound.of_turn (law : Bound s) (turn : Turn s t) : Bound t := by
  cases turn with
  | move move => exact law.of_move move
  | probeStart o mode pattern k i step free idle unused => exact law.of_probeStart free idle unused
  | retireStart home i free single unused => exact law.of_retireStart free single unused
  | released straps => exact .of_release straps

/-- A law that every turn keeps, given the bonds, lasts through any number of them. -/
theorem Bound.turns_keep {law : State → Prop} (keep : ∀ {s t}, Bound s → law s → Turn s t → law t) (bound : Bound s)
    (before : law s) (turns : Turns s t) : Bound t ∧ law t := by
  induction turns with
  | refl => exact ⟨bound, before⟩
  | tail _ turn ih => exact ⟨ih.1.of_turn turn, keep ih.1 ih.2 turn⟩

/-! ### The log's pop and the soft reset -/

theorem serveWaiting_moves (waits : ∀ k ∈ s.probes.waiting, (contextOf s k).state = .done) :
    Moves s (serveWaiting s) := by
  unfold serveWaiting
  split
  · exact .refl
  · rename_i k rest queue
    split_ifs
    · have done := waits k (by rw [queue]; exact List.mem_cons_self)
      refine Quiet.moves ⟨rfl, rfl, id, rfl, rfl, rfl, rfl, fun m => ?_⟩
      have at_ : contextOf (appendLog k { s with probes := { s.probes with waiting := rest } }) m =
          if m = k then { contextOf s k with state := .idle } else contextOf s m := by
        rw [appendLog_eq]
        by_cases h : m = k <;> simp [contextOf, Quad.get_set, h]
      rw [at_]
      split_ifs with h
      · rw [h]
        refine ⟨by rw [done]; rfl, rfl, rfl, rfl, fun h => ⟨h, fun _ => rfl⟩, fun fits => ?_⟩
        obtain ⟨steps, prior, outcome⟩ := fits
        exact ⟨⟨steps.1, steps.2.1, fun h => by simp at h⟩, prior, outcome⟩
      · exact .refl _
    · exact .refl

theorem softResetEffects_moves : Moves s (softResetEffects s) := by
  have start : Moves s (softResetStart s) := .of_eq rfl
  have aborts : Moves s (softResetAborts s) := (start.tail .retireStopped).trans (abortAll_moves _)
  have cleared : Moves (softResetAborts s) { softResetAborts s with host := clearHost (softResetAborts s).host } := .of_eq rfl
  rw [softResetEffects_eq]
  exact (aborts.trans cleared).trans testUnwind_moves

/-! ### Every step -/

theorem accepted_turns (law : probeLaw s) (accepted : Accepted s t) : Turns s t := by
  cases accepted with
  | probeStart o mode pattern k i step free cool idle unused =>
    exact .single (.probeStart o mode pattern k i step free idle unused)
  | probeAbort k running => exact Moves.turns (abortContext_moves .host k)
  | retire home i free single unused => exact .single (.retireStart home i free single unused)
  | recordRead r => exact Moves.turns (.of_eq rfl)
  | recordWrite o status margin writable ordinary free consistent unused =>
    have shown : ∀ v : State, Moves v (showRecord o.row v) := fun v => .of_eq rfl
    unfold writeRecord
    refine Moves.turns (Relation.ReflTransGen.trans ?_ (shown _))
    split_ifs with retired
    · exact .single (.spared o.row o.spare free (unused retired))
    · have opened := (rowFree_iff.mp free).1
      refine .single (.rewritten o.row _ opened ?_ ?_ ?_)
      · unfold writtenRecord
        cases status <;> rfl
      · unfold writtenRecord
        cases status <;> rfl
      · intro small
        unfold writtenRecord
        cases status with
        | profiled =>
          have allowed : classAllowed o.cls o.margin = true := by simpa [inconsistent] using consistent
          refine ⟨?_, ?_, rfl, fun h => by simp at h⟩
          · simp [classAndMarginFit, allowed, margin]
          · simpa [epochValue] using small
        | suspect =>
          refine ⟨?_, rfl, rfl, fun h => by simp at h⟩
          simp only [inconsistent, decide_eq_false_iff_not] at consistent
          simp only [classAndMarginFit, decide_true, Bool.true_and, decide_eq_true_eq]
          omega
        | _ => exact ⟨rfl, rfl, rfl, fun h => by simp at h⟩
  | logRead w => exact Moves.turns (.of_eq rfl)
  | logPop e rest head =>
    have popped : Moves s { s with probes := { s.probes with log := rest } } := .of_eq rfl
    exact Moves.turns (popped.trans (serveWaiting_moves fun k wait => (law.2.1.2.1 k).mpr wait))
  | tempSupply reading =>
    have counted : Moves (readingArrives reading s) { readingArrives reading s with
      supervisor := { (readingArrives reading s).supervisor with stale := 0 } } := .of_eq rfl
    exact Moves.turns ((readingArrives_moves reading).trans counted)

/-- A copy burst's bytes go to the array and the copy buffer (R9). -/
theorem copyArrayEffect_frame (source target : Row) (burst : Nat) (decay : Decay) :
    ∃ array buffer, copyArrayEffect source target burst decay s =
      { s with array := array, copy := { s.copy with buffer := buffer } } :=
  ⟨_, _, rfl⟩

theorem checkHead_moves : Moves s (checkHead s) := by
  rw [checkHead_frame]
  exact .of_eq rfl

theorem arbitrated_turns (law : probeLaw s) (change : Arbitrated s u) : Turns s u := by
  cases change with
  | nothing => exact .refl
  | pauseExpired powerup => exact Moves.turns (.of_eq rfl)
  | initCycle row op => exact Moves.turns (.of_eq rfl)
  | initEnded row op => exact Moves.turns (.of_eq rfl)
  | rowRefresh row op => exact Moves.turns (.of_eq rfl)
  | rowClose d op => exact Moves.turns (.of_eq rfl)
  | hostAccess decay target kind column length bytes pageOpen hit op =>
    rw [endAccess_frame, hostArrayEffect_eq]
    exact Moves.turns (.of_eq rfl)
  | failedHead => exact Moves.turns checkHead_moves
  | popped c rest head =>
    have popped : Moves s { s with requests := { s.requests with completions := rest, cursor := 0 } } := .of_eq rfl
    exact Moves.turns (popped.trans checkHead_moves)
  | posted q ready empty =>
    have posted : Moves s (acceptPost q s) := .of_eq rfl
    exact Moves.turns (posted.trans checkHead_moves)
  | copyBurst decay source target burst op =>
    have freed : Moves s (closeDevice target.device (closeDevice source.device
        (freePort (copyArrayEffect source target burst decay s)))) := by
      obtain ⟨array, buffer, eq⟩ := copyArrayEffect_frame (s := s) source target burst decay
      rw [eq]
      exact .of_eq rfl
    exact Moves.turns (freed.trans (copyBurstResult_moves ((probeLaw_iff.mp law).2.of_moves freed)))
  | unwindEnd => exact Moves.turns testUnwind_moves
  | patternBurst k row burst bytes op =>
    have freed : Moves s (closeDevice row.device (freePort (writeBytes row (Config.burstColumns * burst) bytes s))) := .of_eq rfl
    exact Moves.turns (freed.trans (patternBurstResult_moves k))
  | checkBurst decay k row burst expected differing op =>
    have freed : Moves s (closeDevice row.device (freePort (applyDecay row decay s))) := .of_eq rfl
    exact Moves.turns (freed.trans (checkBurstResult_moves k differing))
  | openRowExpired d runs => exact Moves.turns (.of_eq rfl)
  | sliceExpired room =>
    have started : Moves (takeExpiry s) (startSliceTimer (takeExpiry s)) := .of_eq rfl
    exact Moves.turns (takeExpiry_moves.trans started)
  | sensorTimeout => exact Moves.turns testSensorTimeout_moves
  | heldExpiry => exact Moves.turns releaseHeld_moves
  | visit c cursor => exact Moves.turns (visitRow_moves c)
  | forcedClear => exact Moves.turns testForced_moves
  | stretchExpired k stretch =>
    refine Moves.turns (Moves.of_setContext ⟨by rw [stretch]; rfl, rfl, rfl, rfl, fun h => ⟨h, fun _ => rfl⟩, fun fits => ?_⟩)
    obtain ⟨steps, prior, outcome⟩ := fits
    exact ⟨⟨steps.1, steps.2.1, fun _ => steps.2.2 (.inr (.inl stretch))⟩, prior, outcome⟩
  | conversion reading =>
    have ended : Moves s { s with supervisor := { s.supervisor with conversion := .idle } } := .of_eq rfl
    exact Moves.turns (ended.trans (readingArrives_moves reading))
  | softReset ready => exact Moves.turns softResetEffects_moves
  | sensorMode external config mode legal =>
    have changed : Moves s (sensorChanged external { s with config := config }) := .of_eq rfl
    exact Moves.turns (changed.trans (enterThermal_moves .hot))
  | command code t ready accepted =>
    have written : Moves s { s with host := { s.host with command := code } } := .of_eq rfl
    have reported : Moves t (setCommandStatus .accepted t) := .of_eq rfl
    exact ((Moves.turns written).trans (accepted_turns (s := { s with host := { s.host with command := code } }) law accepted)).trans
      (Moves.turns reported)

theorem unarbitrated_turns (law : logLaw s) (change : Unarbitrated s t) : Turns s t := by
  cases change with
  | nothing => exact .refl
  | time =>
    refine Moves.turns (Quiet.moves ⟨rfl, rfl, id, rfl, rfl, rfl, rfl, fun k => ?_⟩)
    rw [contextOf_tickTimers]
    exact .of_counters rfl rfl rfl rfl rfl rfl rfl rfl rfl
  | asserted => exact Moves.turns (.of_eq rfl)
  | released straps => exact .single (.released straps)
  | logWait =>
    rw [serveWaiting_of_law law]
  | held full => exact Moves.turns (.of_eq rfl)
  | discarded => exact Moves.turns (.of_eq rfl)
  | window host requests interrupt queue access completions staging => exact Moves.turns (.of_eq rfl)
  | posted q ready room behind => exact Moves.turns (.of_eq rfl)
  | configured config mode legal => exact Moves.turns (.of_eq rfl)

/-- A step of a lawful state is turns. -/
theorem step_turns (law : probeLaw s) (h : step s = .next t) : Turns s t := by
  obtain ⟨rest, answer⟩ := step_answers h
  have taken : Moves s { s with pending := rest } := .of_eq rfl
  refine Relation.ReflTransGen.trans (Moves.turns taken) ?_
  obtain change | ⟨-, u, change, rfl⟩ := answer
  · exact unarbitrated_turns (s := { s with pending := rest }) law.2.1 change
  · exact (arbitrated_turns (s := { s with pending := rest }) law change).trans (Moves.turns arbitrate_moves)

theorem step_logLaw (law : logLaw s) (h : step s = .next t) : logLaw t :=
  step_keeps (premise := fun _ => True) (fun _ _ law => law) (fun _ _ _ => trivial)
    (fun _ _ _ law => logLaw_unarbitrated law) (fun _ _ _ law _ => logLaw_arbitrated law) (fun _ => logLaw_arbitrate)
    trivial law h

/-- A law that every turn keeps, given the bonds, is kept by every step of a lawful state. -/
theorem step_turns_keep {kept : State → Prop} (keep : ∀ {s t}, Bound s → kept s → Turn s t → kept t) (law : probeLaw s)
    (before : kept s) (h : step s = .next t) : kept t :=
  ((probeLaw_iff.mp law).2.turns_keep keep before (step_turns law h)).2

theorem step_probeLaw (law : probeLaw s) (h : step s = .next t) : probeLaw t :=
  probeLaw_iff.mpr ⟨step_logLaw law.2.1 h,
    step_turns_keep (kept := Bound) (fun bound _ turn => bound.of_turn turn) law (probeLaw_iff.mp law).2 h⟩

/-- Settles O14: the log's law is kept by each change, and the bonds by each of the turns that a step consists of. -/
theorem stepKeepsProbeAndRedirectLaws : Obligations.StepKeepsProbeAndRedirectLaws :=
  fun _ _ => step_probeLaw

end Sys2Proof.Machine
end

section
/-! PROOFS. Where a row's data lives and what its record says agree (R41 to R43, R53, R102): the law of places. -/

namespace Sys2Proof.Machine

open Sys2Proof

variable {s t u : State}

/-! ### The law of places in parts -/

/-- What a row's record says while its entry stands at an index in a state (R102). -/
def EntryFits (i : ReservedIndex) (state : RedirectState) (r : Record) : Prop :=
  match state with
  | .parkCopying | .spareCopying => r.status.open = true
  | .parkHeld | .parkRestoring => r.status = .probing
  | .spareActive => r.status = .retired ∧ r.spare = some i

/-- What a context that holds its park keeps for the way home (R51, R140). -/
def ContextPlaced (c : ProbeContext) : Prop :=
  c.state.park = some .parkHeld ∨ c.state.park = some .parkRestoring →
    (∃ p, c.prior = some p ∧ p.status.open = true) ∧
      (c.state.park = some .parkRestoring → c.abortReason = none →
        ∃ o, c.outcome.bind PendingOutcome.record = some o ∧ o.status.open = true)

/-- The law of places but for the bonds. -/
structure Placed (s : State) : Prop where
  reserved : ∀ r, (recordOf s r).status = .reserved ↔ isReservedRow r = true
  entry : ∀ i e, redirectAt s i = some e → EntryFits i e.state (recordOf s e.home)
  covered : ∀ r, (recordOf s r).status = .probing ∨ (recordOf s r).status = .retired →
    ∃ i e, redirectAt s i = some e ∧ e.home = r
  context : ∀ k, ContextPlaced (contextOf s k)

theorem ContextState.holds_iff (c : ContextState) :
    c.active = true ∧ c ≠ .parking ↔ c.park = some .parkHeld ∨ c.park = some .parkRestoring := by
  cases c <;> decide

theorem contextPlaced_iff {c : ProbeContext} : ContextPlaced c ↔
    (c.state.active = true → c.state ≠ .parking → (∃ p, c.prior = some p ∧ p.status.open = true) ∧
      (c.state = .restoring → c.abortReason = none →
        ∃ o, c.outcome.bind PendingOutcome.record = some o ∧ o.status.open = true)) := by
  unfold ContextPlaced
  rw [← ContextState.holds_iff, and_imp, ContextState.park_eq_parkRestoring]

theorem entryFits_iff (s : State) (i : ReservedIndex) (e : RedirectEntry) : EntryFits i e.state (recordOf s e.home) ↔
    match e.state with
    | .parkCopying => (recordOf s e.home).status.open = true
    | .spareCopying => (recordOf s e.home).status.open = true
    | .parkHeld => (recordOf s e.home).status = .probing
    | .parkRestoring => (recordOf s e.home).status = .probing
    | .spareActive => (recordOf s e.home).status = .retired ∧ (recordOf s e.home).spare = some i := by
  unfold EntryFits
  cases e.state <;> rfl

theorem placeLaw_iff : placeLaw s ↔ probeLaw s ∧ Placed s := by
  constructor
  · rintro ⟨law, reserved, entry, covered, context⟩
    have table := (probeLaw_iff.mp law).2.table
    exact ⟨law, reserved, fun i e at_ => (entryFits_iff s i e).mpr (entry i e at_),
      fun r h => (hasRedirect_iff table).mp (covered r h), fun k => contextPlaced_iff.mpr (context k)⟩
  · rintro ⟨law, reserved, entry, covered, context⟩
    have table := (probeLaw_iff.mp law).2.table
    exact ⟨law, reserved, fun i e at_ => (entryFits_iff s i e).mp (entry i e at_),
      fun r h => (hasRedirect_iff table).mpr (covered r h), fun k => contextPlaced_iff.mp (context k)⟩

/-! ### Changes that keep it -/

/-- A context on its course keeps what it had for the way home. -/
theorem ContextPlaced.of_course {c d : ProbeContext} (course : SameCourse c d) (placed : ContextPlaced c) :
    ContextPlaced d := by
  intro holds
  rw [course.park] at holds ⊢
  obtain ⟨prior, outcome⟩ := placed holds
  refine ⟨by rw [course.prior]; exact prior, fun restoring finished => ?_⟩
  obtain ⟨before, same⟩ := course.outcome finished
  rw [same (by rw [restoring]; rfl)]
  exact outcome restoring before

theorem ContextPlaced.of_free {c : ProbeContext} (free : c.state.park = none) : ContextPlaced c := by
  rintro (held | restoring)
  · rw [free] at held
    cases held
  · rw [free] at restoring
    cases restoring

theorem ContextPlaced.of_copying {c : ProbeContext} (copying : c.state.park = some .parkCopying) : ContextPlaced c := by
  rintro (held | restoring)
  · rw [copying] at held
    cases held
  · rw [copying] at restoring
    cases restoring

/-- Two records that mean the same to the place of their row. -/
def SameStanding (r r' : Record) : Prop :=
  r'.status = r.status ∧ r'.spare = r.spare ∨ r.status.open = true ∧ r'.status.open = true

theorem RecordStatus.not_of_open {status : RecordStatus} (h : status.open = true) :
    status ≠ .reserved ∧ status ≠ .probing ∧ status ≠ .retired := by
  cases status <;> simp_all [RecordStatus.open]

/-- Records of the same standing leave every row in its place. -/
theorem Placed.of_records (placed : Placed s) (records : ∀ r, SameStanding (recordOf s r) (recordOf t r))
    (redirects : t.redirects = s.redirects) (context : ∀ k, ContextPlaced (contextOf t k)) : Placed t := by
  refine ⟨fun r => ?_, fun i e at_ => ?_, fun r h => ?_, context⟩
  · rw [← placed.reserved r]
    obtain ⟨status, -⟩ | ⟨old, new⟩ := records r
    · rw [status]
    · simp [(RecordStatus.not_of_open old).1, (RecordStatus.not_of_open new).1]
  · rw [redirectAt_congr redirects] at at_
    have fits := placed.entry i e at_
    obtain ⟨status, spare⟩ | ⟨old, new⟩ := records e.home
    · unfold EntryFits at fits ⊢
      rw [status, spare]
      exact fits
    · obtain ⟨-, probing, retired⟩ := RecordStatus.not_of_open old
      unfold EntryFits at fits ⊢
      generalize e.state = state at fits ⊢
      cases state with
      | parkCopying | spareCopying => exact new
      | parkHeld | parkRestoring => exact absurd fits probing
      | spareActive => exact absurd fits.1 retired
  · obtain ⟨status, -⟩ | ⟨-, new⟩ := records r
    · rw [status] at h
      obtain ⟨i, e, at_, home⟩ := placed.covered r h
      exact ⟨i, e, by rw [redirectAt_congr redirects]; exact at_, home⟩
    · obtain ⟨-, probing, retired⟩ := RecordStatus.not_of_open new
      exact absurd h (not_or.mpr ⟨probing, retired⟩)

/-- One row's record and the one entry it has change together. -/
theorem Placed.update (placed : Placed s) {i : ReservedIndex} {x : Option RedirectEntry} {row : Row}
    (at_ : ∀ m, redirectAt t m = if m = i then x else redirectAt s m)
    (records : ∀ r, r ≠ row → recordOf t r = recordOf s r)
    (reserved : (recordOf t row).status = .reserved ↔ (recordOf s row).status = .reserved)
    (only : ∀ m e, m ≠ i → redirectAt s m = some e → e.home ≠ row)
    (old : ∀ e, redirectAt s i = some e → e.home = row)
    (entry : ∀ e, x = some e → e.home = row ∧ EntryFits i e.state (recordOf t row))
    (covered : x = none → (recordOf t row).status ≠ .probing ∧ (recordOf t row).status ≠ .retired)
    (context : ∀ k, ContextPlaced (contextOf t k)) : Placed t := by
  refine ⟨fun r => ?_, fun m e eq => ?_, fun r h => ?_, context⟩
  · rw [← placed.reserved r]
    by_cases here : r = row
    · rw [here]
      exact reserved
    · rw [records r here]
  · rw [at_] at eq
    split_ifs at eq with here
    · obtain ⟨home, fits⟩ := entry e eq
      rw [here, home]
      exact fits
    · rw [records _ (only m e here eq)]
      exact placed.entry m e eq
  · by_cases here : r = row
    · cases new : x with
      | none =>
        rw [here] at h
        exact absurd h (not_or.mpr (covered new))
      | some e => exact ⟨i, e, by rw [at_, if_pos rfl, new], (entry e new).1.trans here.symm⟩
    · rw [records r here] at h
      obtain ⟨m, e, eq, home⟩ := placed.covered r h
      refine ⟨m, e, ?_, home⟩
      rw [at_, if_neg fun index => ?_, eq]
      rw [index] at eq
      exact here (home.symm.trans (old e eq))

/-! ### Records after the moves -/

theorem recordOf_retireRecord (home : Row) (i : ReservedIndex) (q : Row) : recordOf (retireRecord home i s) q =
    if q = home then { status := .retired, cls := 0, margin := 0, stamp := none, queued := false, spare := some i }
    else recordOf s q := by
  unfold retireRecord
  rw [recordOf_setRecord, recordOf_departIfQueued, recordOf_departIfQueued, if_pos rfl]
  split_ifs <;> rfl

/-- The record that park done leaves (R123). -/
theorem recordOf_parkDone {k : ContextId} (parking : (contextOf s k).state = .parking) (q : Row) :
    recordOf (parkDone k s) q = if q = (contextOf s k).target
      then { status := .probing, cls := 0, margin := 0, stamp := none, queued := false, spare := none }
      else recordOf s q := by
  unfold parkDone
  simp only [parking]
  rw [setContext_recordOf, recordOf_setRecord, recordOf_departIfQueued, recordOf_departIfQueued, if_pos rfl]
  split_ifs <;> rfl

/-- The record a restored row takes is open: the outcome's, or the saved one (R51, R144). -/
theorem restoredRecord_eq {c : ProbeContext} (placed : ContextPlaced c) (restoring : c.state.park = some .parkRestoring) :
    ∃ record, restoredRecord c s = setRecord c.target record s ∧ record.status.open = true ∧
      record.queued = (recordOf s c.target).queued ∧
      (contextFits c → s.scheduler.epoch < 256 → recordFits record) := by
  obtain ⟨⟨p, prior, priorOpen⟩, finished⟩ := placed (.inr restoring)
  unfold restoredRecord
  cases reason : c.abortReason with
  | none =>
    obtain ⟨o, outcome, opened⟩ := finished restoring reason
    refine ⟨{ recordOf s c.target with
      status := o.status, cls := o.cls, margin := o.margin
      stamp := if o.status = .profiled then some s.scheduler.epoch else none, spare := none },
      by unfold applyOutcome; rw [outcome], opened, rfl, fun fits small => ⟨fits.2.2 o outcome, ?_, ?_, ?_⟩⟩
    · dsimp only
      split_ifs with profiled
      · simpa [epochValue] using small
      · rfl
    · rw [if_neg (RecordStatus.not_of_open opened).2.2]
    · exact fun h => absurd h (not_or.mpr (RecordStatus.not_of_open opened).2)
  | some reason =>
    refine ⟨{ recordOf s c.target with
      status := p.status, cls := p.cls, margin := p.margin
      stamp := if p.status = .profiled then p.age.map (ageOf s.scheduler.epoch) else none, spare := none },
      by unfold reinstate; rw [prior], priorOpen, rfl, fun fits small => ?_⟩
    obtain ⟨margin, age⟩ := fits.2.1 p prior
    refine ⟨margin, ?_, ?_, ?_⟩
    · dsimp only
      split_ifs with profiled
      · have := age profiled
        cases value : p.age with
        | none =>
          rw [value] at this
          cases this
        | some a => simp [epochValue, ageOf]; omega
      · rfl
    · rw [if_neg (RecordStatus.not_of_open priorOpen).2.2]
    · exact fun h => absurd h (not_or.mpr (RecordStatus.not_of_open priorOpen).2)

end Sys2Proof.Machine
end

section
/-! PROOFS. Every turn keeps the law of places. -/

namespace Sys2Proof.Machine

open Sys2Proof

variable {s t u : State}

/-! ### The entry of a context and the row it parks -/

/-- No other entry is a parked row's. -/
theorem Bound.only_row (law : Bound s) {i : ReservedIndex} {e : RedirectEntry} (entry : redirectAt s i = some e)
    (m : ReservedIndex) (f : RedirectEntry) (other : m ≠ i) (at_ : redirectAt s m = some f) : f.home ≠ e.home :=
  fun home => other (redirect_home_inj law.table at_ entry home).1

/-- One row's record and the entry it has change together; what was at the index is the row's. -/
theorem Placed.update_entry (placed : Placed s) (law : Bound s) {i : ReservedIndex} {e : RedirectEntry}
    {x : Option RedirectEntry} (entry : redirectAt s i = some e)
    (at_ : ∀ m, redirectAt t m = if m = i then x else redirectAt s m)
    (records : ∀ r, r ≠ e.home → recordOf t r = recordOf s r)
    (reserved : (recordOf t e.home).status ≠ .reserved)
    (new : ∀ f, x = some f → f.home = e.home ∧ EntryFits i f.state (recordOf t e.home))
    (covered : x = none → (recordOf t e.home).status.open = true)
    (context : ∀ k, ContextPlaced (contextOf t k)) : Placed t := by
  refine placed.update at_ records ?_ (law.only_row entry) (fun f eq => ?_) new (fun none => ?_) context
  · have fits := placed.entry i e entry
    have old : (recordOf s e.home).status ≠ .reserved := fun h => by
      unfold EntryFits at fits
      generalize e.state = state at fits
      rw [h] at fits
      cases state <;> simp [RecordStatus.open] at fits
    simp [reserved, old]
  · rw [entry, Option.some.injEq] at eq
    rw [eq]
  · exact (RecordStatus.not_of_open (covered none)).2

/-- A row without an entry takes one at a free index. -/
theorem Placed.update_free (placed : Placed s) (law : Bound s) {i : ReservedIndex} {row : Row} {e : RedirectEntry}
    (free : rowFree s row = true) (unused : indexFree s i = true) (home : e.home = row)
    (at_ : ∀ m, redirectAt t m = if m = i then some e else redirectAt s m)
    (records : ∀ r, r ≠ row → recordOf t r = recordOf s r) (reserved : (recordOf t row).status ≠ .reserved)
    (fits : EntryFits i e.state (recordOf t row)) (context : ∀ k, ContextPlaced (contextOf t k)) : Placed t := by
  have opened := (rowFree_iff.mp free).1
  refine placed.update (x := some e) at_ records ?_ (fun m f _ eq => no_entry_of_free law.table free eq) (fun f eq => ?_)
    (fun f eq => ?_) nofun context
  · simp [reserved, (RecordStatus.not_of_open opened).1]
  · rw [(indexFree_iff.mp unused).2] at eq
    cases eq
  · cases eq
    exact ⟨home, fits⟩

/-- A context that ends is free, and the others are as they were. -/
theorem Ends.placed {k : ContextId} (ends : Ends k s t)
    (others : ∀ m, m ≠ k → ContextPlaced (contextOf s m)) (m : ContextId) : ContextPlaced (contextOf t m) := by
  obtain ⟨state, outcome, ended, -, after⟩ := ends.context
  rw [after]
  split_ifs with h
  · refine .of_free ?_
    obtain rfl | rfl := ended <;> rfl
  · exact others m h

/-! ### The moves one by one -/

theorem Placed.of_quiet (placed : Placed s) (same : Quiet s t) : Placed t :=
  placed.of_records (fun r => .inl (by rw [recordOf_congr same.records]; exact ⟨rfl, rfl⟩)) same.redirects
    fun k => (placed.context k).of_course (same.context k)

theorem Placed.of_returned (placed : Placed s) (law : Bound s) {k : ContextId} {c : ProbeContext}
    (held : (contextOf s k).state.park = some .parkHeld) (target : c.target = (contextOf s k).target)
    (parkIndex : c.parkIndex = (contextOf s k).parkIndex) (prior : c.prior = (contextOf s k).prior)
    (outcome : c.abortReason = none → ∃ o, c.outcome.bind PendingOutcome.record = some o ∧ o.status.open = true) :
    Placed (beginRestore k (setContext k c s)) := by
  have entry := law.park_entry held
  have probing : (recordOf s (contextOf s k).target).status = .probing := placed.entry _ _ entry
  have record : ∀ r, recordOf (beginRestore k (setContext k c s)) r = recordOf s r :=
    recordOf_congr (beginRestore_probeChange _ k).records
  refine placed.update_entry law entry (x := some { home := c.target, state := .parkRestoring, owner := .context k })
    (fun m => ?_) (fun r _ => record r) ?_ (fun f eq => ?_) nofun (fun m => ?_)
  · rw [beginRestore_eq, contextOf_setContext_same, parkIndex, target]
    refine (redirectAt_changeRedirect (setContext k c s) _ m _ _).trans ?_
    rw [setContext_redirectAt, setContext_redirectAt, entry]
    rfl
  · rw [record, probing]
    nofun
  · cases eq
    rw [record]
    exact ⟨target, probing⟩
  · rw [contextOf_beginRestore, contextOf_setContext_same, contextOf_setContext]
    split_ifs
    · exact fun _ => ⟨by rw [prior]; exact (placed.context k (.inl held)).1, fun _ => outcome⟩
    · exact placed.context m

theorem Placed.of_converted (placed : Placed s) (law : Bound s) {k : ContextId} {c : ProbeContext}
    (held : (contextOf s k).state.park = some .parkHeld) (target : c.target = (contextOf s k).target)
    (parkIndex : c.parkIndex = (contextOf s k).parkIndex)
    (ends : Ends k (retireRecord c.target c.parkIndex
      (changeRedirect c.parkIndex .spareActive .command (setContext k c s))) t) : Placed t := by
  have entry := law.park_entry held
  have record : ∀ r, recordOf t r = if r = (contextOf s k).target
      then { status := .retired, cls := 0, margin := 0, stamp := none, queued := false
             spare := some (contextOf s k).parkIndex } else recordOf s r := fun r => by
    rw [recordOf_congr ends.records, recordOf_retireRecord, target, parkIndex,
      recordOf_congr (changeRedirect_probeChange _ _ _ _).records, setContext_recordOf]
  refine placed.update_entry law entry (x := some { home := c.target, state := .spareActive, owner := .command })
    (fun m => ?_) (fun r other => by rw [record, if_neg other]) ?_ (fun f eq => ?_) nofun (ends.placed fun m other => ?_)
  · rw [redirectAt_congr ends.redirects, redirectAt_congr (retireRecord_redirects _ _), parkIndex, target,
      redirectAt_changeRedirect, setContext_redirectAt, setContext_redirectAt, entry]
    rfl
  · rw [record, if_pos rfl]
    nofun
  · cases eq
    rw [record, if_pos rfl]
    exact ⟨target, rfl, rfl⟩
  · rw [contextOf_congr_probes (retireRecord_probes _ _), contextOf_congr_probes (changeRedirect_probes _ _ _),
      contextOf_setContext, if_neg other]
    exact placed.context m

theorem Placed.of_stopped (placed : Placed s) (law : Bound s) {k : ContextId} {c : ProbeContext}
    (parking : (contextOf s k).state.park = some .parkCopying)
    (ends : Ends k (setContext k c (abandonJob (isParkOf k) s)) t) : Placed t := by
  have entry := law.park_entry parking
  have opened : (recordOf s (contextOf s k).target).status.open = true := placed.entry _ _ entry
  obtain ⟨engine, abandoned, -⟩ := law.abandonJob_park parking
  have record : ∀ r, recordOf t r = recordOf s r := fun r => by
    rw [recordOf_congr ends.records, setContext_recordOf, abandoned]
    rfl
  refine placed.update_entry law entry (x := none) (fun m => ?_) (fun r _ => record r) ?_ nofun (fun _ => ?_)
    (ends.placed fun m other => ?_)
  · rw [redirectAt_congr ends.redirects, setContext_redirectAt, abandoned]
    exact redirectAt_removeRedirect s _ m
  · rw [record]
    exact (RecordStatus.not_of_open opened).1
  · rw [record]
    exact opened
  · rw [contextOf_setContext, if_neg other, contextOf_congr_probes (abandonJob_probes _)]
    exact placed.context m

theorem Placed.of_parked (placed : Placed s) (law : Bound s) {k : ContextId} {j : CopyJob} {rest : List CopyJob}
    (queue : s.copy.queue = j :: rest) (owner : j.owner = .context k) (kind : j.kind = .park) :
    Placed (parkDone k (changeRedirect j.index .parkHeld (.context k) (jobTaken rest s))) := by
  obtain ⟨home, index, ⟨-, parking⟩ | ⟨other, -⟩⟩ := law.head_context queue owner
  swap
  · rw [kind] at other
    cases other
  have entry := law.park_entry parking
  have opened : (recordOf s (contextOf s k).target).status.open = true := placed.entry _ _ entry
  have state : (contextOf s k).state = .parking := ContextState.park_eq_parkCopying.mp parking
  have mid : ∀ m, contextOf (changeRedirect j.index .parkHeld (.context k) (jobTaken rest s)) m = contextOf s m :=
    fun m => contextOf_congr_probes (changeRedirect_probes _ _ _) m
  have midRecord : ∀ r, recordOf (changeRedirect j.index .parkHeld (.context k) (jobTaken rest s)) r = recordOf s r :=
    recordOf_congr (changeRedirect_probeChange _ _ _ _).records
  have record : ∀ r, recordOf (parkDone k (changeRedirect j.index .parkHeld (.context k) (jobTaken rest s))) r =
      if r = (contextOf s k).target
      then { status := .probing, cls := 0, margin := 0, stamp := none, queued := false, spare := none }
      else recordOf s r := fun r => by
    rw [recordOf_parkDone (by rw [mid]; exact state), mid, midRecord]
  refine placed.update_entry law entry
    (x := some { home := (contextOf s k).target, state := .parkHeld, owner := .context k })
    (fun m => ?_) (fun r other => by rw [record, if_neg other]) ?_ (fun f eq => ?_) nofun (fun m => ?_)
  · rw [redirectAt_congr (parkDone_redirects k), redirectAt_changeRedirect, index]
    have same : ∀ n, redirectAt (jobTaken rest s) n = redirectAt s n := fun _ => rfl
    rw [same, same, entry]
    rfl
  · rw [record, if_pos rfl]
    nofun
  · cases eq
    rw [record, if_pos rfl]
    exact ⟨rfl, rfl⟩
  · rw [contextOf_parkDone]
    simp only [mid, state, and_true]
    split_ifs
    · refine fun _ => ⟨⟨_, rfl, ?_⟩, nofun⟩
      rw [midRecord]
      exact opened
    · exact placed.context m

theorem Placed.of_restored (placed : Placed s) (law : Bound s) {k : ContextId} {j : CopyJob} {rest : List CopyJob}
    (queue : s.copy.queue = j :: rest) (owner : j.owner = .context k) (kind : j.kind = .restore)
    (ends : Ends k (restoredRecord (contextOf s k) (removeRedirect j.index (jobTaken rest s))) t) : Placed t := by
  obtain ⟨home, index, ⟨other, -⟩ | ⟨-, restoring⟩⟩ := law.head_context queue owner
  · rw [kind] at other
    cases other
  have entry := law.park_entry restoring
  obtain ⟨written, restored, opened, -⟩ :=
    restoredRecord_eq (s := removeRedirect j.index (jobTaken rest s)) (placed.context k) restoring
  rw [restored] at ends
  have record : ∀ r, recordOf t r = if r = (contextOf s k).target then written else recordOf s r := fun r => by
    rw [recordOf_congr ends.records, recordOf_setRecord]
    rfl
  refine placed.update_entry law entry (x := none) (fun m => ?_) (fun r other => by rw [record, if_neg other]) ?_ nofun
    (fun _ => ?_) (ends.placed fun m _ => placed.context m)
  · rw [redirectAt_congr ends.redirects, setRecord_redirectAt, redirectAt_removeRedirect, index]
    rfl
  · rw [record, if_pos rfl]
    exact (RecordStatus.not_of_open opened).1
  · rw [record, if_pos rfl]
    exact opened

/-- A row is bound to its spare at an index. -/
theorem Placed.of_bound (placed : Placed s) (law : Bound s) {home : Row} {i : ReservedIndex} {owner : Owner}
    (entry : redirectAt s i = some { home := home, state := .spareCopying, owner := owner })
    (at_ : ∀ m, redirectAt t m =
      if m = i then some { home := home, state := .spareActive, owner := .command } else redirectAt s m)
    (record : ∀ r, recordOf t r = if r = home
      then { status := .retired, cls := 0, margin := 0, stamp := none, queued := false, spare := some i }
      else recordOf s r)
    (context : ∀ k, contextOf t k = contextOf s k) : Placed t := by
  refine placed.update_entry law entry at_ (fun r other => by rw [record, if_neg other]) ?_ (fun f eq => ?_) nofun
    fun k => by rw [context]; exact placed.context k
  · rw [record, if_pos rfl]
    nofun
  · cases eq
    rw [record, if_pos rfl]
    exact ⟨rfl, rfl, rfl⟩

theorem Placed.of_retired (placed : Placed s) (law : Bound s) {j : CopyJob} {rest : List CopyJob}
    (queue : s.copy.queue = j :: rest) (kind : j.kind = .retire) :
    Placed { retireRecord j.home j.index (changeRedirect j.index .spareActive .command (jobTaken rest s)) with
      copy := { s.copy with queue := rest, retire := none } } := by
  obtain ⟨k, -, -, -, ⟨other, -⟩ | ⟨other, -⟩⟩ | ⟨-, -, outstanding⟩ := law.head_job queue
  · rw [kind] at other
    cases other
  · rw [kind] at other
    cases other
  have entry := law.command.entry _ _ outstanding
  refine placed.of_bound law entry (fun m => ?_) (fun r => ?_) (fun k => ?_)
  · refine (redirectAt_congr (retireRecord_redirects j.home j.index) m).trans ?_
    rw [redirectAt_changeRedirect]
    have same : ∀ n, redirectAt (jobTaken rest s) n = redirectAt s n := fun _ => rfl
    rw [same, same, entry]
    rfl
  · refine (recordOf_retireRecord j.home j.index r).trans ?_
    rw [recordOf_congr (changeRedirect_probeChange _ _ _ _).records]
    rfl
  · exact contextOf_congr_probes ((retireRecord_probes j.home j.index).trans (changeRedirect_probes _ _ _)) k

theorem Placed.of_retireStopped (placed : Placed s) (law : Bound s) : Placed (abandonRetire s) := by
  have record : ∀ r, recordOf (abandonRetire s) r = recordOf s r :=
    recordOf_congr (abandonJob_probeChange s isRetire).records
  have context : ∀ k, contextOf (abandonRetire s) k = contextOf s k := contextOf_congr_probes (abandonJob_probes _)
  cases outstanding : s.copy.retire with
  | none =>
    obtain ⟨progress, -, jobs⟩ := law.command.jobs
    rw [outstanding] at jobs
    refine placed.of_records (fun r => .inl ⟨by rw [record], by rw [record]⟩) ?_
      fun k => by rw [context]; exact placed.context k
    obtain ⟨-, kept⟩ | ⟨j, _, first, -⟩ := abandonJob_cases s isRetire
    · change (abandonJob isRetire s).redirects = s.redirects
      rw [kept]
    · have mem := List.mem_of_find?_eq_some first
      have isRetire := List.find?_some first
      have listed := mem_jobsOf.mpr ⟨mem, (law.isRetire_iff mem).mp isRetire⟩
      rw [jobs] at listed
      cases listed
  | some pair =>
    obtain ⟨home, i⟩ := pair
    have entry := law.command.entry home i outstanding
    have opened : (recordOf s home).status.open = true := placed.entry _ _ entry
    obtain ⟨engine, abandoned⟩ := law.abandonJob_retire outstanding
    refine placed.update_entry law entry (x := none) (fun m => ?_) (fun r _ => record r) ?_ nofun (fun _ => ?_)
      fun k => by rw [context]; exact placed.context k
    · refine (redirectAt_congr (congrArg State.redirects abandoned) m).trans ?_
      exact redirectAt_removeRedirect s i m
    · rw [record]
      exact (RecordStatus.not_of_open opened).1
    · rw [record]
      exact opened

theorem Placed.of_spared (placed : Placed s) (law : Bound s) {row : Row} {i : ReservedIndex} (free : rowFree s row = true)
    (unused : indexFree s i = true) :
    Placed (retireRecord row i (setRedirect i { home := row, state := .spareActive, owner := .command } s)) := by
  have record : ∀ r, recordOf (retireRecord row i
      (setRedirect i { home := row, state := .spareActive, owner := .command } s)) r = if r = row
      then { status := .retired, cls := 0, margin := 0, stamp := none, queued := false, spare := some i }
      else recordOf s r := recordOf_retireRecord row i
  refine placed.update_free law free unused (e := { home := row, state := .spareActive, owner := .command }) rfl
    (fun m => ?_) (fun r other => by rw [record, if_neg other]) ?_ ?_ (fun k => ?_)
  · rw [redirectAt_congr (retireRecord_redirects row i), redirectAt_setRedirect]
  · rw [record, if_pos rfl]
    nofun
  · rw [record, if_pos rfl]
    exact ⟨rfl, rfl⟩
  · rw [contextOf_congr_probes (retireRecord_probes row i)]
    exact placed.context k

theorem Placed.of_move (placed : Placed s) (law : Bound s) (move : Move s t) : Placed t := by
  cases move with
  | quiet same => exact placed.of_quiet same
  | departed r =>
    have departure := departDue_departure (s := s) r
    refine placed.of_records (t := departDue r s) (fun q => .inl ?_) (by rw [departure.frame])
      fun k => by rw [departure.frame]; exact placed.context k
    rw [departure.record q]
    exact ⟨rfl, rfl⟩
  | appended row stamp absent status =>
    refine placed.of_records (fun q => .inl ?_) rfl placed.context
    rw [recordOf_appendDue]
    split_ifs with h
    · rw [h]
      exact ⟨rfl, rfl⟩
    · exact ⟨rfl, rfl⟩
  | rewritten row record old new queued fits =>
    refine placed.of_records (fun q => ?_) rfl placed.context
    rw [recordOf_setRecord]
    split_ifs with h
    · rw [h]
      exact .inr ⟨old, new⟩
    · exact .inl ⟨rfl, rfl⟩
  | returned k c held target parkIndex prior outcome fits => exact placed.of_returned law held target parkIndex prior outcome
  | converted k c held target parkIndex fits ends => exact placed.of_converted law held target parkIndex ends
  | stopped k c parking target parkIndex fits ends => exact placed.of_stopped law parking ends
  | parked k j rest queue owner kind => exact placed.of_parked law queue owner kind
  | restored k j rest queue owner kind ends => exact placed.of_restored law queue owner kind ends
  | progressed j rest queue more =>
    exact placed.of_records (fun _ => .inl ⟨rfl, rfl⟩) rfl placed.context
  | retired j rest queue kind => exact placed.of_retired law queue kind
  | retireStopped => exact placed.of_retireStopped law
  | spared row i free unused => exact placed.of_spared law free unused

/-- After a release the records are those of power-on and nothing is redirected (R55, R76). -/
theorem Placed.of_release (straps : BitVec 2) : Placed (releaseReset straps s) := by
  have record : ∀ r, recordOf (releaseReset straps s) r = powerOnRecord r := fun _ => rfl
  have context : ∀ k, contextOf (releaseReset straps s) k = ProbeContext.atReset := Quad.get_all _
  refine ⟨fun r => ?_, nofun, fun r h => ?_, fun k => by rw [context]; exact .of_free rfl⟩
  · rw [record]
    unfold powerOnRecord
    split_ifs <;> simp [*]
  · rw [record] at h
    unfold powerOnRecord at h
    split_ifs at h <;> simp at h

theorem Placed.of_turn (law : Bound s) (placed : Placed s) (turn : Turn s t) : Placed t := by
  cases turn with
  | move move => exact placed.of_move law move
  | probeStart o mode pattern k i step free idle unused =>
    refine placed.update_free law free unused (t := startProbe o mode pattern k i s)
      (e := { home := o.target, state := .parkCopying, owner := .context k }) rfl (fun m => redirectAt_setRedirect s i m _)
      (fun r _ => rfl) (RecordStatus.not_of_open (rowFree_iff.mp free).1).1 (rowFree_iff.mp free).1 (fun m => ?_)
    have context : contextOf (startProbe o mode pattern k i s) m =
        if m = k then startedContext o mode pattern i (contextOf s k) else contextOf s m := contextOf_setContext _ k m _
    rw [context]
    split_ifs
    · exact .of_copying rfl
    · exact placed.context m
  | retireStart home i free single unused =>
    exact placed.update_free law free unused (t := startRetire home i s)
      (e := { home := home, state := .spareCopying, owner := .command }) rfl (fun m => redirectAt_setRedirect s i m _)
      (fun r _ => rfl) (RecordStatus.not_of_open (rowFree_iff.mp free).1).1 (rowFree_iff.mp free).1 placed.context
  | released straps => exact .of_release straps

theorem step_placed (law : placeLaw s) (h : step s = .next t) : Placed t := by
  obtain ⟨probes, placed⟩ := placeLaw_iff.mp law
  exact step_turns_keep (kept := Placed) .of_turn probes placed h

/-- Settles O15: each turn that a step consists of keeps rows, records and contexts in their places. -/
theorem stepKeepsPlaceLaw : Obligations.StepKeepsPlaceLaw :=
  fun _ _ law h => placeLaw_iff.mpr ⟨step_probeLaw law.1 h, step_placed law h⟩

end Sys2Proof.Machine
end

section
/-! PROOFS. What a turn does to the retention table and the due queue; the laws of the due queue (R69) and of the records
(Table 3-2). -/

namespace Sys2Proof.Machine

open Sys2Proof

variable {s t u : State}

/-! ### Records and the due queue at a turn -/

/-- The change a turn makes to the retention table and the due queue. -/
inductive Filed (s t : State) : Prop
  | kept (records : t.records = s.records) (due : t.scheduler.due = s.scheduler.due)
  | departed (row : Row) (records : t.records = (departDue row s).records)
      (due : t.scheduler.due = (departDue row s).scheduler.due)
  | appended (row : Row) (stamp : Nat) (absent : (recordOf s row).queued = false)
      (status : (recordOf s row).status ≠ .probing ∧ (recordOf s row).status ≠ .retired)
      (records : t.records = (appendDue row stamp s).records) (due : t.scheduler.due = (appendDue row stamp s).scheduler.due)
  | rewritten (row : Row) (record : Record) (new : record.status.open = true)
      (queued : record.queued = (recordOf s row).queued) (fits : recordLaw s → recordFits record)
      (records : t.records = (setRecord row record s).records) (due : t.scheduler.due = s.scheduler.due)
  | taken (row : Row) (record : Record) (queued : record.queued = false) (fits : recordFits record)
      (records : ∀ r, recordOf t r = if r = row then record else recordOf s r)
      (due : t.scheduler.due = (departIfQueued row s).scheduler.due)
  | released (records : t.records = []) (due : t.scheduler.due = [])

theorem retireRecord_due (home : Row) (i : ReservedIndex) :
    (retireRecord home i s).scheduler.due = (departIfQueued home s).scheduler.due := rfl

/-- What a departure leaves of the due queue depends on the records and the queue alone. -/
theorem departIfQueued_due_congr (records : t.records = s.records) (due : t.scheduler.due = s.scheduler.due) (r : Row) :
    (departIfQueued r t).scheduler.due = (departIfQueued r s).scheduler.due := by
  unfold departIfQueued
  rw [recordOf_congr records]
  split_ifs
  · rw [departDue_due, departDue_due, due]
  · exact due

theorem recordFits_retired (i : ReservedIndex) : recordFits
    { status := .retired, cls := 0, margin := 0, stamp := none, queued := false, spare := some i } :=
  ⟨rfl, rfl, rfl, fun _ => rfl⟩

theorem recordFits_probing : recordFits
    { status := .probing, cls := 0, margin := 0, stamp := none, queued := false, spare := none } :=
  ⟨rfl, rfl, rfl, fun _ => rfl⟩

theorem Move.filed (move : Move s t) (law : Bound s) (placed : Placed s) : Filed s t := by
  cases move with
  | quiet same => exact .kept same.records same.due
  | departed r => exact .departed r rfl rfl
  | appended row stamp absent status => exact .appended row stamp absent status rfl rfl
  | rewritten row record old new queued fits => exact .rewritten row record new queued (fun law => fits law.1) rfl rfl
  | returned k c held target parkIndex prior outcome fits =>
    exact .kept (beginRestore_probeChange _ k).records (by rw [(beginRestore_probeChange _ k).scheduler]; rfl)
  | converted k c held target parkIndex fits ends =>
    have mid := changeRedirect_probeChange (setContext k c s) c.parkIndex .spareActive .command
    refine .taken c.target _ rfl (recordFits_retired c.parkIndex) (fun r => ?_) ?_
    · rw [recordOf_congr ends.records, recordOf_retireRecord, recordOf_congr mid.records, setContext_recordOf]
    · rw [ends.scheduler, retireRecord_due]
      exact departIfQueued_due_congr (s := s) mid.records (congrArg Scheduler.due mid.scheduler) _
  | stopped k c parking target parkIndex fits ends =>
    have mid := abandonJob_probeChange s (isParkOf k)
    exact .kept (by rw [ends.records, setContext_records, mid.records])
      (by rw [ends.scheduler, setContext_scheduler, mid.scheduler])
  | parked k j rest queue owner kind =>
    obtain ⟨-, -, ⟨-, parking⟩ | ⟨other, -⟩⟩ := law.head_context queue owner
    swap
    · rw [kind] at other
      cases other
    have mid := changeRedirect_probeChange (jobTaken rest s) j.index .parkHeld (.context k)
    have context : contextOf (changeRedirect j.index .parkHeld (.context k) (jobTaken rest s)) k = contextOf s k :=
      contextOf_congr_probes (changeRedirect_probes _ _ _) k
    have state : (contextOf s k).state = .parking := ContextState.park_eq_parkCopying.mp parking
    refine .taken (contextOf s k).target _ rfl recordFits_probing (fun r => ?_) ?_
    · rw [recordOf_parkDone (by rw [context]; exact state), context, recordOf_congr mid.records]
      rfl
    · refine Eq.trans ?_ (departIfQueued_due_congr (s := s) mid.records (by rw [mid.scheduler]; rfl) _)
      unfold parkDone
      simp only [context, state]
      rfl
  | restored k j rest queue owner kind ends =>
    obtain ⟨-, -, ⟨other, -⟩ | ⟨-, restoring⟩⟩ := law.head_context queue owner
    · rw [kind] at other
      cases other
    obtain ⟨record, restored, opened, queued, fits⟩ :=
      restoredRecord_eq (s := removeRedirect j.index (jobTaken rest s)) (placed.context k) restoring
    rw [restored] at ends
    refine .rewritten (contextOf s k).target record opened queued (fun law => ?_) ends.records ?_
    · obtain ⟨epoch, -, contexts⟩ := law
      exact fits (contexts k) epoch
    · rw [ends.scheduler]
      rfl
  | progressed j rest queue more => exact .kept rfl rfl
  | retired j rest queue kind =>
    have mid := changeRedirect_probeChange (jobTaken rest s) j.index .spareActive .command
    refine .taken j.home _ rfl (recordFits_retired j.index) (fun r => ?_) ?_
    · refine (recordOf_retireRecord j.home j.index r).trans ?_
      rw [recordOf_congr mid.records]
      rfl
    · exact departIfQueued_due_congr (s := s) mid.records (congrArg Scheduler.due mid.scheduler) _
  | retireStopped =>
    have mid := abandonJob_probeChange s isRetire
    exact .kept mid.records (congrArg Scheduler.due mid.scheduler)
  | spared row i free unused =>
    exact .taken row _ rfl (recordFits_retired i) (recordOf_retireRecord row i)
      (departIfQueued_due_congr (s := s)
        (t := setRedirect i { home := row, state := .spareActive, owner := .command } s) rfl rfl row)

theorem Turn.filed (turn : Turn s t) (law : Bound s) (placed : Placed s) : Filed s t := by
  cases turn with
  | move move => exact move.filed law placed
  | probeStart o mode pattern k i step free idle unused => exact .kept rfl rfl
  | retireStart home i free single unused => exact .kept rfl rfl
  | released straps => exact .released rfl rfl

/-! ### The law of the due queue -/

/-- The rows of the due queue. -/
def dueRows (s : State) : List Row := s.scheduler.due.map DueEntry.row

/-- Whether a row is queued agrees with its record. -/
def Queued (s : State) (r : Row) : Prop :=
  ((recordOf s r).queued = true ↔ r ∈ dueRows s) ∧
    (r ∈ dueRows s → (recordOf s r).status ≠ .probing ∧ (recordOf s r).status ≠ .retired)

theorem dueQueueLaw_iff : dueQueueLaw s ↔ (dueRows s).Nodup ∧ ∀ r, Queued s r :=
  ⟨fun ⟨nodup, flags, statuses⟩ => ⟨nodup, fun r => ⟨flags r, statuses r⟩⟩,
    fun ⟨nodup, rows⟩ => ⟨nodup, fun r => (rows r).1, fun r => (rows r).2⟩⟩

theorem mem_dueRows_filter {r q : Row} (due : t.scheduler.due = s.scheduler.due.filter (fun e => decide (e.row ≠ r))) :
    q ∈ dueRows t ↔ q ∈ dueRows s ∧ q ≠ r := by
  simp only [dueRows, due, List.mem_map, List.mem_filter, decide_eq_true_eq]
  constructor
  · rintro ⟨e, ⟨mem, other⟩, rfl⟩
    exact ⟨⟨e, mem, rfl⟩, other⟩
  · rintro ⟨⟨e, mem, rfl⟩, other⟩
    exact ⟨e, ⟨mem, other⟩, rfl⟩

theorem dueRows_filter_nodup {r : Row} (due : t.scheduler.due = s.scheduler.due.filter (fun e => decide (e.row ≠ r)))
    (nodup : (dueRows s).Nodup) : (dueRows t).Nodup := by
  unfold dueRows at *
  rw [due]
  exact nodup.sublist (List.filter_sublist.map _)

/-- A row that leaves the queue, its record taking no queued flag with it. -/
theorem dueQueueLaw_of_left (law : dueQueueLaw s) {row : Row}
    (due : t.scheduler.due = s.scheduler.due.filter (fun e => decide (e.row ≠ row)))
    (left : (recordOf t row).queued = false) (records : ∀ r, r ≠ row → recordOf t r = recordOf s r) : dueQueueLaw t := by
  obtain ⟨nodup, rows⟩ := dueQueueLaw_iff.mp law
  refine dueQueueLaw_iff.mpr ⟨dueRows_filter_nodup due nodup, fun r => ?_⟩
  have mem := mem_dueRows_filter (q := r) due
  by_cases h : r = row
  · subst h
    constructor <;> simp [mem, left]
  · constructor
    · rw [records r h, mem, (rows r).1]
      simp [h]
    · rw [records r h]
      exact fun now => (rows r).2 (mem.mp now).1

theorem Filed.dueQueueLaw (filed : Filed s t) (law : dueQueueLaw s) : dueQueueLaw t := by
  obtain ⟨nodup, rows⟩ := dueQueueLaw_iff.mp law
  cases filed with
  | kept records due =>
    have same : dueRows t = dueRows s := congrArg (List.map DueEntry.row) due
    refine dueQueueLaw_iff.mpr ⟨same ▸ nodup, fun r => ?_⟩
    unfold Queued
    rw [same, recordOf_congr records]
    exact rows r
  | departed row records due =>
    have record : ∀ q, recordOf t q = if q = row then { recordOf s row with queued := false } else recordOf s q :=
      fun q => (recordOf_congr records q).trans (recordOf_departDue s row q)
    refine dueQueueLaw_of_left law (row := row) (due.trans (departDue_due s row)) ?_ fun r other => ?_
    · rw [record, if_pos rfl]
    · rw [record, if_neg other]
  | appended row stamp absent status records due =>
    have rowsNow : dueRows t = dueRows s ++ [row] := by
      rw [dueRows, due]
      simp [appendDue, dueRows]
    have fresh : row ∉ dueRows s := fun mem => by
      rw [(rows row).1.mpr mem] at absent
      cases absent
    refine dueQueueLaw_iff.mpr ⟨?_, fun r => ?_⟩
    · rw [rowsNow]
      exact List.nodup_append.mpr ⟨nodup, List.nodup_singleton _, fun a mem b single eq => by
        rw [List.mem_singleton] at single
        exact fresh (single ▸ eq ▸ mem)⟩
    · unfold Queued
      rw [rowsNow, recordOf_congr records, recordOf_appendDue]
      split_ifs with h
      · rw [h]
        exact ⟨by simp, fun _ => status⟩
      · simp only [List.mem_append, List.mem_singleton, h, or_false]
        exact rows r
  | rewritten row record new queued fits records due =>
    have same : dueRows t = dueRows s := congrArg (List.map DueEntry.row) due
    refine dueQueueLaw_iff.mpr ⟨same ▸ nodup, fun r => ?_⟩
    unfold Queued
    rw [same, recordOf_congr records, recordOf_setRecord]
    split_ifs with h
    · rw [h, queued]
      exact ⟨(rows row).1, fun _ => (RecordStatus.not_of_open new).2⟩
    · exact rows r
  | taken row record queued fits records due =>
    refine dueQueueLaw_of_left law (row := row) (due.trans (departIfQueued_due s row (rows row).1)) ?_ fun r other => ?_
    · rw [records, if_pos rfl, queued]
    · rw [records, if_neg other]
  | released records due =>
    have none : dueRows t = [] := by rw [dueRows, due]; rfl
    refine dueQueueLaw_iff.mpr ⟨by rw [none]; exact List.nodup_nil, fun r => ?_⟩
    unfold Queued
    rw [none]
    have record : recordOf t r = powerOnRecord r := by rw [recordOf, records]; rfl
    rw [record]
    exact ⟨⟨fun h => by unfold powerOnRecord at h; split_ifs at h, nofun⟩, nofun⟩

/-- Settles O8: a turn changes records and the due queue together, one row at a time. -/
theorem stepKeepsDueQueueLaw : Obligations.StepKeepsDueQueueLaw := by
  intro s t place law h
  obtain ⟨probes, placed⟩ := placeLaw_iff.mp place
  refine (step_turns_keep (kept := fun v => Placed v ∧ dueQueueLaw v) ?_ probes ⟨placed, law⟩ h).2
  exact fun bound kept turn => ⟨kept.1.of_turn bound turn, (turn.filed bound kept.1).dueQueueLaw kept.2⟩

end Sys2Proof.Machine
end

section
/-! PROOFS. Every turn keeps records, saved records and outcomes within the domains of their status (Table 3-2). -/

namespace Sys2Proof.Machine

open Sys2Proof

variable {s t u : State}

theorem Filed.recordFits (filed : Filed s t) (law : recordLaw s) (r : Row) : recordFits (recordOf t r) := by
  obtain ⟨-, fit, -⟩ := id law
  /- A record that alone loses its queued flag fits as it did. -/
  have unqueued : ∀ q, Machine.recordFits { recordOf s q with queued := false } := fun q => by
    obtain ⟨margin, stamp, spare, -⟩ := fit q
    exact ⟨margin, stamp, spare, fun _ => rfl⟩
  cases filed with
  | kept records due =>
    rw [recordOf_congr records]
    exact fit r
  | departed row records due =>
    rw [recordOf_congr records, recordOf_departDue]
    split_ifs
    · exact unqueued row
    · exact fit r
  | appended row stamp absent status records due =>
    rw [recordOf_congr records, recordOf_appendDue]
    split_ifs
    · obtain ⟨margin, stamp, spare, -⟩ := fit row
      exact ⟨margin, stamp, spare, fun h => absurd h (not_or.mpr status)⟩
    · exact fit r
  | rewritten row record new queued fits records due =>
    rw [recordOf_congr records, recordOf_setRecord]
    split_ifs
    · exact fits law
    · exact fit r
  | taken row record queued fits records due =>
    rw [records]
    split_ifs
    · exact fits
    · exact fit r
  | released records due =>
    have record : recordOf t r = powerOnRecord r := by rw [recordOf, records]; rfl
    rw [record]
    unfold powerOnRecord
    split_ifs <;> exact ⟨rfl, rfl, rfl, fun _ => rfl⟩

/-! ### The epoch counter -/

theorem JobChange.epoch (change : JobChange s t) : t.scheduler.epoch = s.scheduler.epoch := by
  obtain ⟨_, _, _, _, _, _, _, _, _, _, _, _, _, _, rfl⟩ := change
  rfl

theorem Move.epoch (move : Move s t) (small : s.scheduler.epoch < 256) : t.scheduler.epoch < 256 := by
  cases move with
  | quiet same => exact same.epoch small
  | departed r =>
    rw [(departDue_departure (s := s) r).frame]
    exact small
  | appended row stamp absent status => exact small
  | rewritten row record old new queued fits => exact small
  | returned k c held target parkIndex prior outcome fits =>
    rw [(beginRestore_probeChange _ k).scheduler]
    exact small
  | converted k c held target parkIndex fits ends =>
    rw [ends.scheduler, (retireRecord_jobChange _ _ _).epoch, (changeRedirect_probeChange _ _ _ _).scheduler]
    exact small
  | stopped k c parking target parkIndex fits ends =>
    rw [ends.scheduler, setContext_scheduler, (abandonJob_probeChange s (isParkOf k)).scheduler]
    exact small
  | parked k j rest queue owner kind =>
    rw [(parkDone_jobChange _ k).epoch, (changeRedirect_probeChange _ _ _ _).scheduler]
    exact small
  | restored k j rest queue owner kind ends =>
    rw [ends.scheduler, restoredRecord_scheduler]
    exact small
  | progressed j rest queue more => exact small
  | retired j rest queue kind =>
    change (retireRecord j.home j.index (changeRedirect j.index .spareActive .command (jobTaken rest s))).scheduler.epoch < 256
    rw [(retireRecord_jobChange _ _ _).epoch, (changeRedirect_probeChange _ _ _ _).scheduler]
    exact small
  | retireStopped =>
    change (abandonJob isRetire s).scheduler.epoch < 256
    rw [(abandonJob_probeChange s isRetire).scheduler]
    exact small
  | spared row i free unused =>
    rw [(retireRecord_jobChange _ row i).epoch]
    exact small

/-! ### The contexts -/

theorem savedRecord_fits {epoch : Nat} {r : Record} (fits : recordFits r) :
    classAndMarginFit (savedRecord epoch r).status (savedRecord epoch r).cls (savedRecord epoch r).margin = true ∧
      ((savedRecord epoch r).status = .profiled → epochValue (savedRecord epoch r).age = true) := by
  obtain ⟨margin, stamp, -⟩ := fits
  refine ⟨margin, fun profiled => ?_⟩
  change r.status = .profiled at profiled
  rw [if_pos profiled] at stamp
  simp only [savedRecord, if_pos profiled]
  cases value : r.stamp with
  | none =>
    rw [value] at stamp
    cases stamp
  | some a => simp [epochValue, ageOf]; omega

theorem contextFits_started {o : ProbeOperand} {mode : ProbeMode} (step : stepValid mode o.step = true)
    (pattern : Pattern) (park : ReservedIndex) (c : ProbeContext) : contextFits (startedContext o mode pattern park c) := by
  refine ⟨?_, nofun, nofun⟩
  cases mode with
  | search => exact ⟨Nat.le_of_ble_eq_true rfl, Nat.zero_le _, fun _ _ => .inl rfl⟩
  | check =>
    simp only [stepValid, Bool.and_eq_true, decide_eq_true_eq] at step
    exact ⟨step.2, Nat.zero_le _, nofun⟩

/-- A context that ends fits if it did, and the others are as they were. -/
theorem Ends.fits {k : ContextId} (ends : Ends k s t) (own : contextFits (contextOf s k))
    (others : ∀ m, m ≠ k → contextFits (contextOf s m)) (m : ContextId) : contextFits (contextOf t m) := by
  obtain ⟨state, outcome, ended, fits, after⟩ := ends.context
  rw [after]
  split_ifs with h
  · obtain ⟨steps, prior, -⟩ := id own
    refine ⟨⟨steps.1, steps.2.1, fun running => ?_⟩, prior, fits own⟩
    obtain rfl | rfl := ended <;> simp at running
  · exact others m h

theorem Move.contextFits (move : Move s t) (records : ∀ r, recordFits (recordOf s r))
    (fit : ∀ k, contextFits (contextOf s k)) (m : ContextId) : contextFits (contextOf t m) := by
  cases move with
  | quiet same => exact (same.context m).fits (fit m)
  | departed r =>
    rw [(departDue_departure (s := s) r).frame]
    exact fit m
  | appended row stamp absent status => exact fit m
  | rewritten row record old new queued fits => exact fit m
  | returned k c held target parkIndex prior outcome fits =>
    rw [contextOf_beginRestore, contextOf_setContext_same, contextOf_setContext]
    split_ifs
    · exact fits (fit k)
    · exact fit m
  | converted k c held target parkIndex fits ends =>
    have mid : ∀ m, contextOf (retireRecord c.target c.parkIndex
        (changeRedirect c.parkIndex .spareActive .command (setContext k c s))) m = if m = k then c else contextOf s m :=
      fun m => by
        rw [contextOf_congr_probes (retireRecord_probes _ _), contextOf_congr_probes (changeRedirect_probes _ _ _),
          contextOf_setContext]
    refine ends.fits ?_ (fun m other => ?_) m
    · rw [mid, if_pos rfl]
      exact fits (fit k)
    · rw [mid, if_neg other]
      exact fit m
  | stopped k c parking target parkIndex fits ends =>
    refine ends.fits ?_ (fun m other => ?_) m
    · rw [contextOf_setContext_same]
      exact fits (fit k)
    · rw [contextOf_setContext, if_neg other, contextOf_congr_probes (abandonJob_probes _)]
      exact fit m
  | parked k j rest queue owner kind =>
    have mid : ∀ m, contextOf (changeRedirect j.index .parkHeld (.context k) (jobTaken rest s)) m = contextOf s m :=
      fun m => contextOf_congr_probes (changeRedirect_probes _ _ _) m
    rw [contextOf_parkDone]
    simp only [mid]
    split_ifs with h
    · obtain ⟨rfl, parking⟩ := h
      obtain ⟨steps, -, outcome⟩ := fit m
      refine ⟨⟨steps.1, steps.2.1, fun _ => steps.2.2 (.inr (.inr (.inr parking)))⟩, fun p eq => ?_, outcome⟩
      cases eq
      refine savedRecord_fits ?_
      rw [recordOf_congr (changeRedirect_probeChange _ _ _ _).records]
      exact records _
    · exact fit m
  | restored k j rest queue owner kind ends =>
    have mid : ∀ m, contextOf (restoredRecord (contextOf s k) (removeRedirect j.index (jobTaken rest s))) m =
        contextOf s m := fun m => contextOf_congr_probes (restoredRecord_probes _) m
    refine ends.fits ?_ (fun m other => ?_) m
    · rw [mid]
      exact fit k
    · rw [mid]
      exact fit m
  | progressed j rest queue more => exact fit m
  | retired j rest queue kind =>
    have same : contextOf { retireRecord j.home j.index (changeRedirect j.index .spareActive .command (jobTaken rest s)) with
        copy := { s.copy with queue := rest, retire := none } } m = contextOf s m :=
      contextOf_congr_probes ((retireRecord_probes j.home j.index).trans (changeRedirect_probes _ _ _)) m
    rw [same]
    exact fit m
  | retireStopped =>
    have same : contextOf (abandonRetire s) m = contextOf s m := contextOf_congr_probes (abandonJob_probes _) m
    rw [same]
    exact fit m
  | spared row i free unused =>
    rw [contextOf_congr_probes (retireRecord_probes row i)]
    exact fit m

/-! ### The law -/

theorem recordLaw_iff : recordLaw s ↔ s.scheduler.epoch < 256 ∧ (∀ r, recordFits (recordOf s r)) ∧
    ∀ k, contextFits (contextOf s k) := Iff.rfl

theorem recordLaw_of_turn (bound : Bound s) (placed : Placed s) (law : recordLaw s) (turn : Turn s t) : recordLaw t := by
  have records := (turn.filed bound placed).recordFits law
  obtain ⟨small, old, contexts⟩ := recordLaw_iff.mp law
  cases turn with
  | move move => exact recordLaw_iff.mpr ⟨move.epoch small, records, move.contextFits old contexts⟩
  | probeStart o mode pattern k i step free idle unused =>
    refine recordLaw_iff.mpr ⟨small, records, fun m => ?_⟩
    have context : contextOf (startProbe o mode pattern k i s) m =
        if m = k then startedContext o mode pattern i (contextOf s k) else contextOf s m := contextOf_setContext _ k m _
    rw [context]
    split_ifs
    · exact contextFits_started step pattern i _
    · exact contexts m
  | retireStart home i free single unused => exact recordLaw_iff.mpr ⟨small, records, contexts⟩
  | released straps =>
    have context : ∀ k, contextOf (releaseReset straps s) k = ProbeContext.atReset := Quad.get_all _
    refine recordLaw_iff.mpr ⟨Nat.zero_lt_succ 255, records, fun k => ?_⟩
    rw [context]
    exact ⟨⟨by decide, by decide, by decide⟩, nofun, nofun⟩

/-- Settles O13: a turn writes one record, within the domains of its status, and leaves the contexts within theirs. -/
theorem stepKeepsRecordLaw : Obligations.StepKeepsRecordLaw := by
  intro s t place law h
  obtain ⟨probes, placed⟩ := placeLaw_iff.mp place
  refine (step_turns_keep (kept := fun v => Placed v ∧ recordLaw v) ?_ probes ⟨placed, law⟩ h).2
  exact fun bound kept turn => ⟨kept.1.of_turn bound turn, recordLaw_of_turn bound kept.1 kept.2 turn⟩

end Sys2Proof.Machine
end

section
/-! PROOFS. What an entry into HOT does and does not touch, through every operation that can bring it about. -/

namespace Sys2Proof.Machine

open Sys2Proof

variable {s t u : State}

/-- Two states with the same probes, copies, entries and LOG_READY flag: an abort does the same to both. -/
structure SameProbes (s t : State) : Prop where
  probes : t.probes = s.probes
  copy : t.copy = s.copy
  redirects : t.redirects = s.redirects
  deviceCount : t.deviceCount = s.deviceCount
  logReady : t.host.events.getLsbD 4 = s.host.events.getLsbD 4

theorem SameProbes.refl : SameProbes s s := ⟨rfl, rfl, rfl, rfl, rfl⟩

theorem SameProbes.symm (same : SameProbes s t) : SameProbes t s :=
  ⟨same.probes.symm, same.copy.symm, same.redirects.symm, same.deviceCount.symm, same.logReady.symm⟩

theorem SameProbes.trans (first : SameProbes s t) (second : SameProbes t u) : SameProbes s u :=
  ⟨second.probes.trans first.probes, second.copy.trans first.copy, second.redirects.trans first.redirects,
    second.deviceCount.trans first.deviceCount, second.logReady.trans first.logReady⟩

theorem SameProbes.contextOf (same : SameProbes s t) (k : ContextId) : contextOf t k = contextOf s k :=
  contextOf_congr_probes same.probes k

/-- Only an entry into HOT touches probes, copies and entries, and it aborts the probes (R137). -/
structure Heats (s t : State) : Prop where
  calm : s.supervisor.thermal = .hot ∨ t.supervisor.thermal ≠ .hot → SameProbes s t
  heated : s.supervisor.thermal ≠ .hot → t.supervisor.thermal = .hot →
    ∃ v, SameProbes s v ∧ SameProbes (abortAll .thermal v) t

theorem Heats.of_same (same : SameProbes s t) (thermal : t.supervisor.thermal = s.supervisor.thermal) : Heats s t :=
  ⟨fun _ => same, fun cool hot => absurd (thermal.symm.trans hot) cool⟩

theorem Heats.after (heats : Heats s t) (same : SameProbes t u) (thermal : u.supervisor.thermal = t.supervisor.thermal) :
    Heats s u := by
  refine ⟨fun calm => ?_, fun cool hot => ?_⟩
  · rw [thermal] at calm
    exact (heats.calm calm).trans same
  · rw [thermal] at hot
    obtain ⟨v, before, aborted⟩ := heats.heated cool hot
    exact ⟨v, before, aborted.trans same⟩

theorem Heats.before (same : SameProbes s t) (thermal : t.supervisor.thermal = s.supervisor.thermal) (heats : Heats t u) :
    Heats s u := by
  refine ⟨fun calm => ?_, fun cool hot => ?_⟩
  · rw [← thermal] at calm
    exact same.trans (heats.calm calm)
  · rw [← thermal] at cool
    obtain ⟨v, before, aborted⟩ := heats.heated cool hot
    exact ⟨v, same.trans before, aborted⟩

/-- With no probe to abort there is nothing that an abort changes. -/
theorem abortAll_of_calm {reason : AbortReason} (other : reason ≠ .reset)
    (calm : ∀ k, abortable (contextOf s k).state = false) : abortAll reason s = s := by
  have one : ∀ k, abortContext reason k s = s := fun k => by
    have := calm k
    unfold abortContext
    cases state : (contextOf s k).state <;> simp_all [abortable]
  simp [abortAll, allContexts, one]

theorem Heats.same_of_calm (heats : Heats s t) (calm : ∀ k, abortable (contextOf s k).state = false) : SameProbes s t := by
  by_cases heated : s.supervisor.thermal ≠ .hot ∧ t.supervisor.thermal = .hot
  · obtain ⟨v, before, aborted⟩ := heats.heated heated.1 heated.2
    rw [abortAll_of_calm (by decide) fun k => by rw [before.contextOf]; exact calm k] at aborted
    exact before.trans aborted
  · refine heats.calm ?_
    rwa [not_and_or, not_not] at heated

/-- A flag other than LOG_READY is none of the probes' concern. -/
theorem raiseEvent_sameProbes {flag : EventFlag} (other : flag.word.getLsbD 4 = false) : SameProbes s (raiseEvent flag s) :=
  ⟨rfl, rfl, rfl, rfl, (raiseEvent_raises flag (BitVec.or_self)).getLsbD other⟩

theorem enterThermal_thermal (new : ThermalState) : (enterThermal new s).supervisor.thermal = new := by
  obtain ⟨same, h⟩ | ⟨-, -, h⟩ | ⟨-, -, h⟩ := enterThermal_cases s new <;> rw [h]
  · exact same
  · rfl
  · rw [(abortAll_probeChange _ _).supervisor]
    rfl

theorem enterThermal_heats (new : ThermalState) : Heats s (enterThermal new s) := by
  have thermal := enterThermal_thermal (s := s) new
  have changed : SameProbes s { s with supervisor := { s.supervisor with thermal := new } } := ⟨rfl, rfl, rfl, rfl, rfl⟩
  have raised := changed.trans (raiseEvent_sameProbes (flag := .thermalChange) (by decide))
  obtain ⟨same, h⟩ | ⟨-, cool, h⟩ | ⟨from_, hot, h⟩ := enterThermal_cases s new <;> rw [h] at thermal ⊢
  · exact .of_same .refl rfl
  · exact ⟨fun _ => raised, fun _ hot => absurd (thermal.symm.trans hot) cool⟩
  · refine ⟨fun calm => ?_, fun _ _ => ⟨_, raised, .refl⟩⟩
    rw [thermal, hot] at calm
    rw [hot] at from_
    exact absurd calm (not_or.mpr ⟨from_, not_not.mpr rfl⟩)

theorem readingArrives_heats (reading : Int) : Heats s (readingArrives reading s) := by
  unfold readingArrives
  dsimp only
  generalize (if s.supervisor.window.length < Config.windowReadings then s.supervisor.window
    else s.supervisor.window.drop 1) ++ [reading] = window
  split_ifs
  · exact .of_same ⟨rfl, rfl, rfl, rfl, rfl⟩ rfl
  · exact .before (t := { s with supervisor := { s.supervisor with window := window, lastReading := some reading } })
      ⟨rfl, rfl, rfl, rfl, rfl⟩ rfl (enterThermal_heats _)

theorem sensorTimeout_heats : Heats s (sensorTimeout s) := by
  have emptied : SameProbes s { s with supervisor := { s.supervisor with window := [], stale := 0 } } :=
    ⟨rfl, rfl, rfl, rfl, rfl⟩
  exact (Heats.before emptied rfl (enterThermal_heats .hot)).after (raiseEvent_sameProbes (by decide)) rfl

theorem testSensorTimeout_heats : Heats s (testSensorTimeout s) := by
  unfold testSensorTimeout
  split_ifs
  · exact sensorTimeout_heats
  · exact .of_same .refl rfl

theorem supervisorPassStart_heats : Heats s (supervisorPassStart s) := by
  unfold supervisorPassStart
  split_ifs
  · exact .before (t := { s with supervisor := { s.supervisor with stale := s.supervisor.stale + 1 } })
      ⟨rfl, rfl, rfl, rfl, rfl⟩ rfl testSensorTimeout_heats
  · split
    · exact .of_same ⟨rfl, rfl, rfl, rfl, rfl⟩ rfl
    · exact .of_same .refl rfl

theorem takeExpiry_heats : Heats s (takeExpiry s) := by
  have pass : Heats s (expiryPass s) := by
    unfold expiryPass
    dsimp only
    split_ifs
    · unfold passStart
      refine .before ?_ ?_ supervisorPassStart_heats
      · exact ⟨rfl, rfl, rfl, rfl, rfl⟩
      · rfl
    · exact .of_same ⟨rfl, rfl, rfl, rfl, rfl⟩ rfl
  have flag : (takeExpiry s).host.events.getLsbD 4 = (expiryPass s).host.events.getLsbD 4 := by
    rw [takeExpiry_eq]
    cases late : expiryOverruns s with
    | false => rfl
    | true => exact (raiseEvent_sameProbes (flag := .overrun) (by decide)).logReady
  refine pass.after ⟨?_, ?_, ?_, ?_, flag⟩ ?_ <;> rw [takeExpiry_eq_expiryPass]

theorem releaseHeld_heats : Heats s (releaseHeld s) := by
  obtain ⟨-, -, eq⟩ | ⟨-, eq⟩ := releaseHeld_cases (s := s) <;> rw [eq]
  · exact takeExpiry_heats.after ⟨rfl, rfl, rfl, rfl, rfl⟩ rfl
  · exact .of_same .refl rfl

theorem advanceScan_heats (c : ScanCursor) : Heats s (advanceScan c s) := by
  obtain ⟨-, eq⟩ | ⟨-, -, eq⟩ | ⟨-, -, eq⟩ := advanceScan_cases (s := s) c <;> rw [eq]
  · exact .of_same ⟨rfl, rfl, rfl, rfl, rfl⟩ rfl
  · exact .of_same ⟨rfl, rfl, rfl, rfl, rfl⟩ rfl
  · rw [endScan_eq, testForced_eq]
    have ended : SameProbes s (scanEnded c s) := ⟨rfl, rfl, rfl, rfl, rfl⟩
    have held : Heats s (releaseHeld (scanEnded c s)) := .before ended rfl releaseHeld_heats
    generalize releaseHeld (scanEnded c s) = v at held
    exact held.after ⟨rfl, rfl, rfl, rfl, rfl⟩ rfl

theorem visitRow_heats (c : ScanCursor) : Heats s (visitRow c s) := by
  have aged : SameProbes s (ageDemotion c.visited s) ∧ (ageDemotion c.visited s).supervisor = s.supervisor := by
    have flag := (ageDemotion_raises s c.visited).getLsbD (i := 4) (by decide)
    obtain ⟨_, _, eq⟩ := ageDemotion_eq (s := s) c.visited
    rw [eq] at flag ⊢
    exact ⟨⟨rfl, rfl, rfl, rfl, flag⟩, rfl⟩
  obtain ⟨same, supervisor⟩ := aged
  have thermal := congrArg Supervisor.thermal supervisor
  obtain ⟨-, -, -, eq⟩ | ⟨-, -, -, eq⟩ | ⟨-, eq⟩ := visitRow_cases (s := s) c <;> rw [eq]
  · exact (Heats.of_same same thermal).after ⟨rfl, rfl, rfl, rfl, rfl⟩ rfl
  · have appended : SameProbes (ageDemotion c.visited s) (appendDue c.visited c.serial (ageDemotion c.visited s)) :=
      ⟨rfl, rfl, rfl, rfl, rfl⟩
    exact .before (same.trans appended) thermal (advanceScan_heats c)
  · exact .before same thermal (advanceScan_heats c)

end Sys2Proof.Machine
end

section
/-! PROOFS. The aborts of the probes in ascending order (R135 to R138): what they leave of the copy queue, the redirect table, the
contexts and the log. -/

namespace Sys2Proof.Machine

open Sys2Proof

variable {s t u v : State}

/-! ### One abort -/

/-- The engine once the job of its burst may have been abandoned (R111). -/
def markAbandoned (atHead : Bool) : CopyEngineState → CopyEngineState
  | .idle => .idle
  | .copying abandoned => .copying (abandoned || atHead)

/-- What an abort of its context leaves of a PARK entry (R135, R136). -/
def abortedEntry (e : RedirectEntry) : Option RedirectEntry :=
  match e.state with
  | .parkCopying => none
  | .parkHeld => some { e with state := .parkRestoring }
  | .parkRestoring | .spareCopying | .spareActive => some e

/-- The RESTORE job of a context (R104). -/
def restoreJob (k : ContextId) (c : ProbeContext) : CopyJob :=
  { kind := .restore, home := c.target, index := c.parkIndex, owner := .context k, progress := 0 }

/-- The context holds its row in a PARK/HELD entry: WRITING, STRETCH or CHECKING (R118). -/
def holdsRow (c : ProbeContext) : Bool :=
  decide (c.state = .writing ∨ c.state = .stretch ∨ c.state = .checking)

theorem holdsRow_iff {c : ProbeContext} : holdsRow c = true ↔ c.state.park = some .parkHeld := by
  rw [ContextState.park_eq_parkHeld, holdsRow, decide_eq_true_iff]

/-- Erasing the one job of a kind is leaving out the jobs of that kind. -/
theorem eraseP_eq_filter_not {α : Type} {p : α → Bool} : ∀ {l : List α}, (l.filter p).length ≤ 1 →
    l.eraseP p = l.filter (fun a => !p a)
  | [], _ => rfl
  | a :: l, few => by
    by_cases here : p a = true
    · rw [List.filter_cons_of_pos here, List.length_cons] at few
      have none := List.filter_eq_nil_iff.mp (List.length_eq_zero_iff.mp (by omega : (l.filter p).length = 0))
      rw [List.eraseP_cons_of_pos here, List.filter_cons_of_neg (by simp [here]), eq_comm, List.filter_eq_self]
      exact fun b mem => by simp [none b mem]
    · rw [List.filter_cons_of_neg here] at few
      rw [List.eraseP_cons_of_neg here, List.filter_cons_of_pos (by simp [here]), eraseP_eq_filter_not few]

theorem abandonJob_eq {isJob : CopyJob → Bool} {j : CopyJob} (found : s.copy.queue.find? isJob = some j) :
    abandonJob isJob s = { s with
      redirects := Sparse.erase j.index.val s.redirects
      copy := { s.copy with
        queue := s.copy.queue.eraseP isJob, engine := markAbandoned (s.copy.queue.head?.any isJob) s.copy.engine } } := by
  unfold abandonJob
  split
  · rename_i none
    rw [found] at none
    cases none
  · rename_i i first
    rw [found, Option.some.injEq] at first
    rw [← first]
    unfold markAbandoned
    cases s.copy.engine <;> rfl

/-- A context that is not in PARKING has no PARK job (R105). -/
theorem Bound.parking_of_job (law : Bound s) {k : ContextId} {j : CopyJob} (mem : j ∈ s.copy.queue)
    (isPark : isParkOf k j = true) : (contextOf s k).state.park = some .parkCopying := by
  simp only [isParkOf, Bool.and_eq_true, beq_iff_eq] at isPark
  obtain ⟨kind, owner⟩ := isPark
  obtain ⟨progress, -, eq⟩ := (law.context k).jobs
  have listed := mem_jobsOf.mpr ⟨mem, owner⟩
  rw [eq, contextJobs] at listed
  split at listed
  · assumption
  · rw [List.mem_singleton] at listed
    rw [listed] at kind
    cases kind
  all_goals cases listed

theorem Bound.owned_entry (law : Bound s) {k : ContextId} {i : ReservedIndex} {e : RedirectEntry}
    (at_ : redirectAt s i = some e) (owner : e.owner = .context k) :
    i = (contextOf s k).parkIndex ∧ (contextOf s k).state.park = some e.state ∧ e.home = (contextOf s k).target := by
  have here := law.only_entry at_ owner
  obtain ⟨active, -⟩ := (law.context k).owned i e at_ owner
  obtain ⟨state, own⟩ := Option.isSome_iff_exists.mp active
  have entry := (law.context k).entry state own
  rw [← here, at_, Option.some.injEq] at entry
  rw [entry]
  exact ⟨here, own, rfl⟩

/-- What the abort of one context does to the copy engine and the redirect table, whatever its state. -/
structure JobAborted (k : ContextId) (s t : State) : Prop where
  copy : t.copy = { s.copy with
    queue := s.copy.queue.filter (fun j => !isParkOf k j) ++
      if holdsRow (contextOf s k) then [restoreJob k (contextOf s k)] else []
    engine := markAbandoned (s.copy.queue.head?.any (isParkOf k)) s.copy.engine }
  entry : ∀ i, redirectAt t i =
    (redirectAt s i).bind fun e => if e.owner = .context k then abortedEntry e else some e

theorem markAbandoned_false (engine : CopyEngineState) : markAbandoned false engine = engine := by
  cases engine with
  | idle => rfl
  | copying a => simp [markAbandoned]

theorem markAbandoned_or (a b : Bool) (engine : CopyEngineState) :
    markAbandoned b (markAbandoned a engine) = markAbandoned (a || b) engine := by
  cases engine with
  | idle => rfl
  | copying c => simp [markAbandoned, Bool.or_assoc]

/-- With no PARK job of a context in the queue, none is at its head and leaving them out leaves the queue. -/
theorem park_jobs_absent {k : ContextId} {queue : List CopyJob} (none : ∀ j ∈ queue, isParkOf k j = false) :
    queue.filter (fun j => !isParkOf k j) = queue ∧ queue.head?.any (isParkOf k) = false := by
  refine ⟨List.filter_eq_self.mpr fun j mem => by simp [none j mem], ?_⟩
  cases queue with
  | nil => rfl
  | cons j rest => simpa using none j List.mem_cons_self

/-- An abort that leaves the copies alone, of a context without a PARK/COPYING or PARK/HELD entry. -/
theorem JobAborted.of_same (law : Bound s) {k : ContextId}
    (other : (contextOf s k).state.park = none ∨ (contextOf s k).state.park = some .parkRestoring)
    (copy : t.copy = s.copy) (redirects : t.redirects = s.redirects) : JobAborted k s t := by
  have absent : ∀ j ∈ s.copy.queue, isParkOf k j = false := fun j mem => by
    by_contra isPark
    have parking := law.parking_of_job mem (by simpa using isPark)
    rw [parking] at other
    obtain other | other := other <;> cases other
  have free : holdsRow (contextOf s k) = false := by
    by_contra holds
    have held := holdsRow_iff.mp (by simpa using holds)
    rw [held] at other
    obtain other | other := other <;> cases other
  obtain ⟨queue, head⟩ := park_jobs_absent absent
  constructor
  · rw [copy, queue, head, free, markAbandoned_false]
    simp
  · intro i
    rw [redirectAt_congr redirects]
    cases at_ : redirectAt s i with
    | none => rfl
    | some e =>
      rw [Option.bind_some]
      split_ifs with owner
      · obtain ⟨-, state, -⟩ := law.owned_entry at_ owner
        rw [state] at other
        obtain other | other := other
        · cases other
        · rw [abortedEntry, Option.some.inj other]
      · rfl

/-- The abort of a context in PARKING gives up its job and its entry (R110, R135). -/
theorem JobAborted.of_stopped (law : Bound s) {k : ContextId} (parking : (contextOf s k).state.park = some .parkCopying)
    (copy : t.copy = (abandonJob (isParkOf k) s).copy) (redirects : t.redirects = (abandonJob (isParkOf k) s).redirects) :
    JobAborted k s t := by
  obtain ⟨progress, -, jobs⟩ := (law.context k).jobs
  rw [contextJobs, parking] at jobs
  have found : ∀ j ∈ s.copy.queue, isParkOf k j = (j.owner == .context k) := fun j mem => by
    rw [Bool.eq_iff_iff, isParkOf, Bool.and_eq_true, beq_iff_eq, beq_iff_eq, and_iff_right_iff_imp]
    intro owner
    have listed := mem_jobsOf.mpr ⟨mem, owner⟩
    rw [jobs, List.mem_singleton] at listed
    rw [listed]
  have few : (s.copy.queue.filter (isParkOf k)).length ≤ 1 := by
    have same : s.copy.queue.filter (isParkOf k) = jobsOf s (.context k) := List.filter_congr found
    rw [same, jobs]
    exact le_rfl
  obtain ⟨j, first⟩ : ∃ j, s.copy.queue.find? (isParkOf k) = some j := by
    rw [← Option.isSome_iff_exists, List.find?_isSome]
    have listed : CopyJob.mk .park (contextOf s k).target (contextOf s k).parkIndex (.context k) progress ∈
        jobsOf s (.context k) := by
      rw [jobs]
      exact List.mem_singleton_self _
    obtain ⟨mem, owner⟩ := mem_jobsOf.mp listed
    exact ⟨_, mem, by rw [found _ mem, owner]; simp⟩
  have index : j.index = (contextOf s k).parkIndex := by
    have mem := List.mem_of_find?_eq_some first
    have isPark := List.find?_some first
    rw [found j mem, beq_iff_eq] at isPark
    have listed := mem_jobsOf.mpr ⟨mem, isPark⟩
    rw [jobs, List.mem_singleton] at listed
    rw [listed]
  have free : holdsRow (contextOf s k) = false := by
    by_contra holds
    have held := holdsRow_iff.mp (by simpa using holds)
    rw [parking] at held
    cases held
  rw [abandonJob_eq first] at copy redirects
  constructor
  · rw [copy, eraseP_eq_filter_not few, free]
    simp
  · intro i
    rw [redirectAt_congr (s := removeRedirect j.index s) redirects, redirectAt_removeRedirect, index]
    cases at_ : redirectAt s i with
    | none => simp
    | some e =>
      rw [Option.bind_some]
      split_ifs with here owner owner
      · obtain ⟨-, state, -⟩ := law.owned_entry at_ owner
        rw [parking] at state
        rw [abortedEntry, ← Option.some.inj state]
      · rw [here, law.park_entry parking, Option.some.injEq] at at_
        rw [← at_] at owner
        exact absurd rfl owner
      · exact absurd (law.owned_entry at_ owner).1 here
      · rfl

/-- The abort of a context that holds its row appends its RESTORE job (R104, R136). -/
theorem JobAborted.of_returned (law : Bound s) {k : ContextId} (held : (contextOf s k).state.park = some .parkHeld)
    {c : ProbeContext} (target : c.target = (contextOf s k).target) (parkIndex : c.parkIndex = (contextOf s k).parkIndex) :
    JobAborted k s (beginRestore k (setContext k c s)) := by
  have absent : ∀ j ∈ s.copy.queue, isParkOf k j = false := fun j mem => by
    by_contra isPark
    have parking := law.parking_of_job mem (by simpa using isPark)
    rw [parking] at held
    cases held
  obtain ⟨queue, head⟩ := park_jobs_absent absent
  rw [beginRestore_eq, contextOf_setContext_same, target, parkIndex]
  constructor
  · rw [queue, head, holdsRow_iff.mpr held, markAbandoned_false, if_pos rfl]
    rfl
  · intro i
    have changed : ∀ w : State, w.redirects = (changeRedirect (contextOf s k).parkIndex .parkRestoring (.context k)
        (setContext k c s)).redirects → redirectAt w i = if i = (contextOf s k).parkIndex
          then (redirectAt s i).map (fun e => { e with state := .parkRestoring, owner := .context k })
          else redirectAt s i := fun w redirects => by
      rw [redirectAt_congr redirects, redirectAt_changeRedirect, setContext_redirectAt]
      split_ifs with here
      · rw [here]
      · rfl
    refine (changed _ rfl).trans ?_
    cases at_ : redirectAt s i with
    | none => simp
    | some e =>
      rw [Option.bind_some]
      split_ifs with here owner owner
      · obtain ⟨-, state, -⟩ := law.owned_entry at_ owner
        rw [held] at state
        rw [abortedEntry, ← Option.some.inj state, Option.map_some, owner]
      · rw [here, law.park_entry held, Option.some.injEq] at at_
        rw [← at_] at owner
        exact absurd rfl owner
      · exact absurd (law.owned_entry at_ owner).1 here
      · rfl

theorem abortContext_jobAborted (law : Bound s) (reason : AbortReason) (k : ContextId) :
    JobAborted k s (abortContext reason k s) := by
  unfold abortContext
  split
  · have ends := abortParking_ends (s := s) reason k
    refine .of_stopped law (ContextState.park_eq_parkCopying.mpr ‹_›) ?_ ?_
    · rw [ends.copy, setContext_copy]
    · rw [ends.redirects, setContext_redirects]
  · exact .of_returned law (ContextState.park_eq_parkHeld.mpr (.inl ‹_›)) rfl rfl
  · exact .of_returned law (ContextState.park_eq_parkHeld.mpr (.inr (.inl ‹_›))) rfl rfl
  · exact .of_returned law (ContextState.park_eq_parkHeld.mpr (.inr (.inr ‹_›))) rfl rfl
  · refine .of_same law (.inr (ContextState.park_eq_parkRestoring.mpr ‹_›)) ?_ ?_ <;> split_ifs <;> rfl
  · rename_i done
    refine .of_same law (.inl (by rw [done]; rfl)) ?_ ?_ <;> split_ifs <;> rfl
  · rename_i idle
    exact .of_same law (.inl (by rw [idle]; rfl)) rfl rfl

/-! ### The aborts in their order -/

/-- What the aborts of some contexts have done to the copy engine and the redirect table. -/
structure JobsAborted (past : List ContextId) (s t : State) : Prop where
  copy : t.copy = { s.copy with
    queue := s.copy.queue.filter (fun j => !past.any (isParkOf · j)) ++
      (past.filter fun k => holdsRow (contextOf s k)).map fun k => restoreJob k (contextOf s k)
    engine := markAbandoned (s.copy.queue.head?.any fun j => past.any (isParkOf · j)) s.copy.engine }
  entry : ∀ i, redirectAt t i =
    (redirectAt s i).bind fun e => if past.any (fun k => e.owner == .context k) then abortedEntry e else some e

theorem JobsAborted.nil : JobsAborted [] s s := by
  constructor
  · have head : (s.copy.queue.head?.any fun j => ([] : List ContextId).any (isParkOf · j)) = false := by
      cases s.copy.queue <;> rfl
    rw [head, markAbandoned_false]
    simp
  · intro i
    simp

/-- No RESTORE job is a PARK job. -/
theorem not_isParkOf_restoreJobs {k : ContextId} {l : List ContextId} {f : ContextId → ProbeContext} :
    ∀ j ∈ l.map (fun m => restoreJob m (f m)), isParkOf k j = false := by
  intro j mem
  obtain ⟨m, -, rfl⟩ := List.mem_map.mp mem
  rfl

/-- The head of a queue that some jobs have left is a job of a kind, or one of those was at the head. -/
theorem head_any_filter {α : Type} {n p : α → Bool} {A B : List α} (none : ∀ b ∈ B, p b = false) :
    (A.head?.any n || (A.filter (fun a => !n a) ++ B).head?.any p) = A.head?.any fun a => n a || p a := by
  cases A with
  | nil =>
    cases B with
    | nil => rfl
    | cons b rest => simpa using none b List.mem_cons_self
  | cons a rest => cases left : n a <;> simp [left]

theorem abortedEntry_owner {e f : RedirectEntry} (h : abortedEntry e = some f) : f.owner = e.owner := by
  unfold abortedEntry at h
  split at h <;> cases h <;> rfl

theorem abortedEntry_abortedEntry (e : RedirectEntry) : (abortedEntry e).bind abortedEntry = abortedEntry e := by
  obtain ⟨home, state, owner⟩ := e
  cases state <;> rfl

theorem JobsAborted.snoc {past : List ContextId} {k : ContextId} (done : JobsAborted past s v)
    (same : contextOf v k = contextOf s k) (next : JobAborted k v t) : JobsAborted (past ++ [k]) s t := by
  have either : ∀ j, (past ++ [k]).any (isParkOf · j) = (past.any (isParkOf · j) || isParkOf k j) := fun j => by simp
  constructor
  · rw [next.copy, done.copy, same]
    dsimp only
    congr 1
    · rw [List.filter_append, (park_jobs_absent not_isParkOf_restoreJobs).1, List.append_assoc, List.filter_append,
        List.map_append, List.filter_filter]
      congr 1
      · refine List.filter_congr fun j _ => ?_
        rw [either, Bool.not_or, Bool.and_comm]
      · cases holds : holdsRow (contextOf s k) <;> simp [holds]
    · rw [markAbandoned_or, head_any_filter not_isParkOf_restoreJobs]
      simp only [either]
  · intro i
    rw [next.entry, done.entry]
    cases redirectAt s i with
    | none => rfl
    | some e =>
      simp only [Option.bind_some, List.any_append, List.any_cons, List.any_nil, Bool.or_false]
      by_cases before : past.any (fun m => e.owner == .context m) = true
      · simp only [before, if_true, Bool.true_or]
        by_cases owner : e.owner = .context k
        · conv_rhs => rw [← abortedEntry_abortedEntry]
          refine Option.bind_congr fun f left => ?_
          rw [abortedEntry_owner left, if_pos owner]
        · have keeps : ∀ f ∈ abortedEntry e, (if f.owner = .context k then abortedEntry f else some f) = some f :=
            fun f left => by rw [abortedEntry_owner left, if_neg owner]
          rw [Option.bind_congr keeps, Option.bind_fun_some]
      · simp [before]

/-- The aborts of a list of contexts, each one once, keep a state's laws and have their effects on copies and entries. -/
theorem foldl_abortContext {reason : AbortReason} {measured : List ContextId → State → Prop} 
    (one : ∀ past k v, k ∉ past → (∀ m, m ∉ past → contextOf v m = contextOf s m) → Bound v → measured past v →
      measured (past ++ [k]) (abortContext reason k v) ∧
        ∀ m, m ≠ k → contextOf (abortContext reason k v) m = contextOf v m) :
    ∀ (rest past : List ContextId) (v : State), (past ++ rest).Nodup → (∀ m, m ∉ past → contextOf v m = contextOf s m) →
      Bound v → JobsAborted past s v → measured past v →
      JobsAborted (past ++ rest) s (rest.foldl (fun w k => abortContext reason k w) v) ∧
        measured (past ++ rest) (rest.foldl (fun w k => abortContext reason k w) v)
  | [], past, v, _, _, _, jobs, holds => by simpa using ⟨jobs, holds⟩
  | k :: rest, past, v, nodup, untouched, law, jobs, holds => by
    have fresh : k ∉ past := fun mem => by
      have := List.nodup_append.mp nodup
      exact this.2.2 k mem k List.mem_cons_self rfl
    obtain ⟨next, others⟩ := one past k v fresh untouched law holds
    have := foldl_abortContext one rest (past ++ [k]) (abortContext reason k v) (by simpa using nodup)
      (fun m new => by
        rw [List.mem_append, List.mem_singleton, not_or] at new
        rw [others m new.2, untouched m new.1])
      (law.of_moves (abortContext_moves reason k)) (jobs.snoc (untouched k fresh) (abortContext_jobAborted law reason k)) next
    simpa using this

/-! ### An entry into DONE, in the terms of the claims -/

/-- The log entry a context builds is that of its outcome (R148). -/
theorem logEntryOf_eq_loggedEntry (k : ContextId) (c : ProbeContext) (outcome : PendingOutcome) :
    logEntryOf k { c with outcome := some outcome } = loggedEntry k c outcome := by
  unfold logEntryOf loggedEntry
  obtain ⟨name, record⟩ := outcome
  dsimp only [Option.map_some, Option.getD_some, Option.bind_some]
  generalize (if name = .aborted then none else c.failingStep) = failing
  congr 1
  · cases record <;> rfl
  · cases failing <;> rfl
  · cases failing <;> rfl

theorem enterDone_host (k : ContextId) (outcome : PendingOutcome) : (enterDone k outcome s).host =
    if s.probes.log.length < 8 then (withEvents 0x010#10 s).host else s.host := by
  obtain ⟨room, eq⟩ | ⟨full, eq⟩ := enterDone_cases s k outcome <;> rw [eq]
  · rw [if_pos room]
    rfl
  · rw [if_neg (by omega)]

theorem enterDone_logged (k : ContextId) (outcome : PendingOutcome) : (enterDone k outcome s).probes.log =
    s.probes.log ++ if s.probes.log.length < 8 then [loggedEntry k (contextOf s k) outcome] else [] := by
  rw [enterDone_log, logEntryOf_eq_loggedEntry]
  split_ifs
  · rfl
  · rw [List.append_nil]

/-- The abort of a context in PARKING, but for its job and entry: it logs ABORTED where the log has room and waits where it has
none (R135, R147). -/
theorem abortParking_done {reason : AbortReason} (kept : reason ≠ .reset) (k : ContextId) :
    (∀ m, contextOf (abortParking reason k s) m = if m = k then { contextOf s k with
      state := endState s, abortReason := some reason, outcome := some abortedOutcome } else contextOf s m) ∧
    (abortParking reason k s).probes.log = s.probes.log ++ (if s.probes.log.length < 8
      then [loggedEntry k { contextOf s k with abortReason := some reason } abortedOutcome] else []) ∧
    (abortParking reason k s).probes.waiting =
      (if s.probes.log.length < 8 then s.probes.waiting else s.probes.waiting ++ [k]) ∧
    (abortParking reason k s).host = (if s.probes.log.length < 8 then (withEvents 0x010#10 s).host else s.host) := by
  have same : ∀ m, contextOf (abandonJob (isParkOf k) s) m = contextOf s m :=
    contextOf_congr_probes (abandonJob_probes _)
  have ended : abortParking reason k s = enterDone k abortedOutcome (setContext k
      { contextOf s k with abortReason := some reason } (abandonJob (isParkOf k) s)) := by
    unfold abortParking
    dsimp only
    rw [same]
    cases reason with
    | reset => exact absurd rfl kept
    | host => rfl
    | thermal => rfl
  have log : (setContext k { contextOf s k with abortReason := some reason } (abandonJob (isParkOf k) s)).probes.log =
      s.probes.log := by
    simp only [setContext_probes, abandonJob_probes]
  have waiting : (setContext k { contextOf s k with abortReason := some reason } (abandonJob (isParkOf k) s)).probes.waiting =
      s.probes.waiting := by
    simp only [setContext_probes, abandonJob_probes]
  have state : endState (setContext k { contextOf s k with abortReason := some reason } (abandonJob (isParkOf k) s)) =
      endState s := by
    unfold endState
    rw [log]
  rw [ended]
  refine ⟨fun m => ?_, ?_, ?_, ?_⟩
  · rw [contextOf_enterDone, contextOf_setContext_same, contextOf_setContext, same, state]
    split_ifs <;> rfl
  · rw [enterDone_logged, log, contextOf_setContext_same]
  · rw [enterDone_waiting, log, waiting]
  · rw [enterDone_host, log]
    unfold withEvents
    simp only [setContext_host, abandonJob_host]

/-! ### The entry into HOT -/

/-- The contexts in PARKING, of a list. -/
def parkingOf (s : State) (l : List ContextId) : List ContextId :=
  l.filter fun k => decide ((contextOf s k).state = .parking)

/-- The contexts that hold their row, of a list. -/
def holdingOf (s : State) (l : List ContextId) : List ContextId :=
  l.filter fun k => holdsRow (contextOf s k)

/-- What the thermal aborts of some contexts have done to the contexts and the log (R135 to R137, R147). -/
structure HeatEnds (past : List ContextId) (s t : State) : Prop where
  context : ∀ m, contextOf t m =
    if m ∈ parkingOf s past then { contextOf s m with
      state := if m ∈ (parkingOf s past).take (8 - s.probes.log.length) then .idle else .done
      abortReason := some .thermal, outcome := some abortedOutcome }
    else if m ∈ holdingOf s past then { contextOf s m with
      state := .restoring, abortReason := some .thermal, stretchTimer := .stopped }
    else contextOf s m
  log : t.probes.log = s.probes.log ++ ((parkingOf s past).take (8 - s.probes.log.length)).map fun k =>
    loggedEntry k { contextOf s k with abortReason := some .thermal } abortedOutcome
  waiting : t.probes.waiting = s.probes.waiting ++ (parkingOf s past).drop (8 - s.probes.log.length)
  logReady : t.host.events.getLsbD 4 =
    (s.host.events.getLsbD 4 || decide ((parkingOf s past).take (8 - s.probes.log.length) ≠ []))

theorem HeatEnds.nil : HeatEnds [] s s := by
  constructor <;> simp [parkingOf, holdingOf]

/-- A context of neither list is as it was, and its abort changes nothing. -/
theorem HeatEnds.pass {past : List ContextId} {k : ContextId} (done : HeatEnds past s v)
    (parks : (contextOf s k).state ≠ .parking) (free : holdsRow (contextOf s k) = false) : HeatEnds (past ++ [k]) s v := by
  have parking : parkingOf s (past ++ [k]) = parkingOf s past := by simp [parkingOf, parks]
  have holding : holdingOf s (past ++ [k]) = holdingOf s past := by simp [holdingOf, free]
  constructor
  · rw [parking, holding]
    exact done.context
  · rw [parking]
    exact done.log
  · rw [parking]
    exact done.waiting
  · rw [parking]
    exact done.logReady

theorem HeatEnds.returned {past : List ContextId} {k : ContextId} (done : HeatEnds past s v) (fresh : k ∉ past)
    (holds : holdsRow (contextOf s k) = true) (same : contextOf v k = contextOf s k)
    (context : ∀ m, contextOf t m = if m = k then { contextOf v k with
      state := .restoring, abortReason := some .thermal, stretchTimer := .stopped } else contextOf v m)
    (log : t.probes.log = v.probes.log) (waiting : t.probes.waiting = v.probes.waiting) (host : t.host = v.host) :
    HeatEnds (past ++ [k]) s t := by
  have parks : (contextOf s k).state ≠ .parking := fun parking => by
    rw [holdsRow, parking] at holds
    simp at holds
  have parking : parkingOf s (past ++ [k]) = parkingOf s past := by simp [parkingOf, parks]
  have holding : holdingOf s (past ++ [k]) = holdingOf s past ++ [k] := by simp [holdingOf, holds]
  have absent : k ∉ parkingOf s past := fun mem => fresh (List.mem_of_mem_filter mem)
  constructor
  · intro m
    rw [context, parking, holding]
    by_cases h : m = k
    · subst h
      rw [if_pos rfl, if_neg absent, if_pos (by simp), same]
    · rw [if_neg h, done.context]
      simp [h]
  · rw [parking, log]
    exact done.log
  · rw [parking, waiting]
    exact done.waiting
  · rw [parking, host]
    exact done.logReady

theorem HeatEnds.stopped {past : List ContextId} {k : ContextId} (done : HeatEnds past s v) (fresh : k ∉ past)
    (parks : (contextOf s k).state = .parking) (same : contextOf v k = contextOf s k) :
    HeatEnds (past ++ [k]) s (abortParking .thermal k v) := by
  obtain ⟨context, log, waiting, host⟩ := abortParking_done (s := v) (reason := .thermal) (by decide) k
  have parking : parkingOf s (past ++ [k]) = parkingOf s past ++ [k] := by simp [parkingOf, parks]
  have free : holdsRow (contextOf s k) = false := by simp [holdsRow, parks]
  have holding : holdingOf s (past ++ [k]) = holdingOf s past := by simp [holdingOf, free]
  have absent : k ∉ parkingOf s past := fun mem => fresh (List.mem_of_mem_filter mem)
  have listed : v.probes.log.length = s.probes.log.length + min (8 - s.probes.log.length) (parkingOf s past).length := by
    rw [done.log, List.length_append, List.length_map, List.length_take]
  have room : v.probes.log.length < 8 ↔ (parkingOf s past).length < 8 - s.probes.log.length := by omega
  have taken : (parkingOf s past ++ [k]).take (8 - s.probes.log.length) =
      (parkingOf s past).take (8 - s.probes.log.length) ++ if v.probes.log.length < 8 then [k] else [] := by
    rw [List.take_append]
    split_ifs with fits
    · rw [List.take_of_length_le (l := [k]) (by simp; omega)]
    · rw [(by omega : 8 - s.probes.log.length - (parkingOf s past).length = 0), List.take_zero]
  have dropped : (parkingOf s past ++ [k]).drop (8 - s.probes.log.length) =
      (parkingOf s past).drop (8 - s.probes.log.length) ++ if v.probes.log.length < 8 then [] else [k] := by
    rw [List.drop_append]
    split_ifs with fits
    · rw [List.drop_eq_nil_of_le (as := [k]) (by simp; omega)]
    · rw [(by omega : 8 - s.probes.log.length - (parkingOf s past).length = 0), List.drop_zero]
  constructor
  · intro m
    rw [context, parking, holding, taken]
    by_cases h : m = k
    · subst h
      have later : m ∉ (parkingOf s past).take (8 - s.probes.log.length) := fun mem => absent (List.mem_of_mem_take mem)
      rw [if_pos rfl, if_pos (by simp), same, endState]
      split_ifs <;> simp_all
    · have other : m ∉ (if v.probes.log.length < 8 then [k] else []) := by split_ifs <;> simp [h]
      rw [if_neg h, done.context]
      simp only [List.mem_append, List.mem_singleton, h, or_false, other]
  · rw [log, parking, taken, done.log, List.map_append, List.append_assoc, same]
    split_ifs <;> rfl
  · rw [waiting, parking, dropped, done.waiting]
    split_ifs <;> simp
  · rw [host, parking, taken]
    split_ifs with fits
    · simp [withEvents]
    · rw [done.logReady, List.append_nil]

theorem contextOf_abortContext_other {reason : AbortReason} {k m : ContextId} (other : m ≠ k) :
    contextOf (abortContext reason k s) m = contextOf s m := by
  unfold abortContext
  split
  · have ends := abortParking_ends (s := s) reason k
    obtain ⟨_, _, -, -, context⟩ := ends.context
    rw [context, if_neg other, contextOf_setContext, if_neg other, contextOf_congr_probes (abandonJob_probes _)]
  · rw [contextOf_abortRunning, if_neg other]
  · rw [contextOf_abortRunning, if_neg other]
  · rw [contextOf_abortRunning, if_neg other]
  · split_ifs
    · rw [contextOf_setContext, if_neg other]
    · rfl
  · split_ifs
    · rw [contextOf_setContext, if_neg other]
    · rfl
  · rfl

theorem abortRunning_host (reason : AbortReason) (k : ContextId) : (abortRunning reason k s).host = s.host := by
  unfold abortRunning
  rw [beginRestore_host, setContext_host]

/-- Each thermal abort adds its part. -/
theorem HeatEnds.next {past : List ContextId} {k : ContextId} (done : HeatEnds past s v) (fresh : k ∉ past)
    (same : contextOf v k = contextOf s k) : HeatEnds (past ++ [k]) s (abortContext .thermal k v) := by
  have returned : (contextOf v k).state.park = some .parkHeld → HeatEnds (past ++ [k]) s (abortRunning .thermal k v) :=
    fun held => done.returned fresh (holdsRow_iff.mpr (same ▸ held)) same (contextOf_abortRunning .thermal k)
      (abortRunning_log .thermal k).1 (abortRunning_log .thermal k).2 (abortRunning_host .thermal k)
  unfold abortContext
  split
  · rename_i parking
    exact done.stopped fresh (same ▸ parking) same
  · exact returned (ContextState.park_eq_parkHeld.mpr (.inl ‹_›))
  · exact returned (ContextState.park_eq_parkHeld.mpr (.inr (.inl ‹_›)))
  · exact returned (ContextState.park_eq_parkHeld.mpr (.inr (.inr ‹_›)))
  all_goals
    rename_i state
    rw [same] at state
    exact done.pass (by simp [state]) (by simp [holdsRow, state])

/-- Every PARK job is a context's, and every job that is none is another kind's (R104). -/
theorem Bound.isPark_iff (law : Bound s) {j : CopyJob} (mem : j ∈ s.copy.queue) :
    allContexts.any (isParkOf · j) = decide (j.kind = .park) := by
  rw [Bool.eq_iff_iff, List.any_eq_true, decide_eq_true_iff]
  constructor
  · rintro ⟨k, -, isPark⟩
    simp only [isParkOf, Bool.and_eq_true, beq_iff_eq] at isPark
    exact isPark.1
  · intro kind
    cases owner : j.owner with
    | context k =>
      refine ⟨k, ?_, by simp [isParkOf, kind, owner]⟩
      fin_cases k <;> decide
    | command =>
      have retires := (law.isRetire_iff mem).mpr owner
      simp [isRetire, kind] at retires

/-- An entry is a context's, or the command unit's and no PARK entry (R99, R112). -/
theorem Bound.aborted_entry (law : Bound s) {i : ReservedIndex} {e : RedirectEntry} (at_ : redirectAt s i = some e) :
    (if allContexts.any (fun k => e.owner == .context k) then abortedEntry e else some e) = abortedEntry e := by
  cases owner : e.owner with
  | context k =>
    refine if_pos (List.any_eq_true.mpr ⟨k, ?_, by simp⟩)
    fin_cases k <;> decide
  | command =>
    have notPark := (law.command.owned i e at_ owner).1
    rw [if_neg (by decide)]
    unfold abortedEntry
    cases state : e.state <;> simp_all [RedirectState.isPark]

theorem head_any_congr {α : Type} {l : List α} {p q : α → Bool} (same : ∀ a ∈ l, p a = q a) :
    l.head?.any p = l.head?.any q := by
  cases l with
  | nil => rfl
  | cons a rest => exact same a List.mem_cons_self

theorem abortedEntry_eq (o : Option RedirectEntry) : o.bind abortedEntry = match o with
    | none => none
    | some e => match e.state with
      | .parkCopying => none
      | .parkHeld => some { e with state := .parkRestoring }
      | .parkRestoring => some e
      | .spareCopying => some e
      | .spareActive => some e := by
  cases o with
  | none => rfl
  | some e =>
    obtain ⟨home, state, owner⟩ := e
    cases state <;> rfl

/-- An entry into HOT aborts the probes as the claims have it (R135 to R137). -/
theorem abortAll_heatAborted (law : Bound s) : heatAborted s (abortAll .thermal s) := by
  obtain ⟨jobs, ends⟩ := foldl_abortContext (s := s) (reason := .thermal) (measured := fun past v => HeatEnds past s v)
    (fun past k v fresh untouched _ done =>
      ⟨done.next fresh (untouched k fresh), fun m other => contextOf_abortContext_other other⟩)
    allContexts [] s (by decide) (fun _ _ => rfl) law .nil .nil
  have queue : (abortAll .thermal s).copy.queue = s.copy.queue.filter (fun j => decide (j.kind ≠ .park)) ++
      (holdingOf s allContexts).map fun k => restoreJob k (contextOf s k) := by
    have filtered : s.copy.queue.filter (fun j => !allContexts.any (isParkOf · j)) =
        s.copy.queue.filter fun j => decide (j.kind ≠ .park) :=
      List.filter_congr fun j mem => by rw [law.isPark_iff mem, decide_not]
    rw [← filtered]
    exact congrArg CopyEngine.queue jobs.copy
  have head := head_any_congr fun j mem => law.isPark_iff (s := s) mem
  refine ⟨ends.context, ends.log, ends.waiting, queue, ?_, fun i => ?_, ends.logReady⟩
  · have copy : (abortAll .thermal s).copy = _ := jobs.copy
    rw [List.nil_append, head] at copy
    rw [copy]
    rfl
  · exact (jobs.entry i).trans ((Option.bind_congr fun e at_ => law.aborted_entry at_).trans (abortedEntry_eq _))

/-! ### The soft reset -/

/-- What the soft reset leaves of a context (R138). -/
def resetContext (c : ProbeContext) : ProbeContext :=
  match c.state with
  | .idle => c
  | .parking => { c with state := .idle, abortReason := some .reset, outcome := none }
  | .writing | .stretch | .checking => { c with state := .restoring, abortReason := some .reset, stretchTimer := .stopped }
  | .restoring => { c with abortReason := some .reset }
  | .done => { c with state := .idle, outcome := none }

theorem abortContext_reset_context (k : ContextId) :
    contextOf (abortContext .reset k s) k = resetContext (contextOf s k) ∧
      (abortContext .reset k s).probes.log = s.probes.log ∧
      (abortContext .reset k s).probes.waiting = s.probes.waiting := by
  have running : (contextOf s k).state.park = some .parkHeld →
      contextOf (abortRunning .reset k s) k = resetContext (contextOf s k) ∧
        (abortRunning .reset k s).probes.log = s.probes.log ∧
        (abortRunning .reset k s).probes.waiting = s.probes.waiting := fun held => by
    refine ⟨?_, abortRunning_log .reset k⟩
    rw [contextOf_abortRunning, if_pos rfl]
    unfold resetContext
    obtain state | state | state := ContextState.park_eq_parkHeld.mp held <;> simp only [state]
  unfold abortContext
  split
  · rename_i state
    unfold abortParking
    refine ⟨?_, ?_, ?_⟩
    · simp only [setContext_setContext, contextOf_setContext_same, contextOf_congr_probes (abandonJob_probes (isParkOf k)),
        resetContext, state]
    · simp only [setContext_probes, abandonJob_probes]
    · simp only [setContext_probes, abandonJob_probes]
  · exact running (ContextState.park_eq_parkHeld.mpr (.inl ‹_›))
  · exact running (ContextState.park_eq_parkHeld.mpr (.inr (.inl ‹_›)))
  · exact running (ContextState.park_eq_parkHeld.mpr (.inr (.inr ‹_›)))
  · rename_i state
    simp [resetContext, state]
  · rename_i state
    simp [resetContext, state]
  · rename_i state
    simp [resetContext, state]

/-- What the resets of some contexts have done to the contexts and the log (R138, R139). -/
structure ResetEnds (past : List ContextId) (s t : State) : Prop where
  context : ∀ m, contextOf t m = if m ∈ past then resetContext (contextOf s m) else contextOf s m
  log : t.probes.log = s.probes.log
  waiting : t.probes.waiting = s.probes.waiting

theorem ResetEnds.next {past : List ContextId} {k : ContextId} (done : ResetEnds past s v)
    (same : contextOf v k = contextOf s k) : ResetEnds (past ++ [k]) s (abortContext .reset k v) := by
  obtain ⟨context, log, waiting⟩ := abortContext_reset_context (s := v) k
  refine ⟨fun m => ?_, log.trans done.log, waiting.trans done.waiting⟩
  by_cases h : m = k
  · subst h
    rw [context, same, if_pos (by simp)]
  · rw [contextOf_abortContext_other h, done.context]
    simp [h]

/-- The retire outstanding given up: its job and entry are gone (R110, R115). -/
theorem abandonRetire_copies (law : Bound s) :
    (abandonRetire s).copy = { s.copy with
      queue := s.copy.queue.filter (fun j => !isRetire j)
      engine := markAbandoned (s.copy.queue.head?.any isRetire) s.copy.engine, retire := none } ∧
    ∀ i, redirectAt (abandonRetire s) i =
      (redirectAt s i).bind fun e => if e.state = .spareCopying then none else some e := by
  obtain ⟨progress, -, jobs⟩ := law.command.jobs
  have retires : s.copy.queue.filter isRetire = jobsOf s .command :=
    List.filter_congr fun j mem => by rw [Bool.eq_iff_iff, law.isRetire_iff mem, beq_iff_eq]
  have few : (s.copy.queue.filter isRetire).length ≤ 1 := by
    rw [retires, jobs]
    unfold retireJobs
    split <;> simp
  have copying : ∀ i e, redirectAt s i = some e → e.state = .spareCopying → s.copy.retire = some (e.home, i) :=
    fun i e at_ state => by
      cases owner : e.owner with
      | context k =>
        obtain ⟨-, own, -⟩ := law.owned_entry at_ owner
        rw [state] at own
        cases park : (contextOf s k).state <;> rw [park] at own <;> cases own
      | command => exact ((law.command.owned i e at_ owner).2).mp state
  unfold abandonRetire
  cases first : s.copy.queue.find? isRetire with
  | none =>
    have absent : ∀ j ∈ s.copy.queue, isRetire j = false := fun j mem => by
      simpa using List.find?_eq_none.mp first j mem
    have single : s.copy.retire = none := by
      cases retire : s.copy.retire with
      | none => rfl
      | some p =>
        rw [retire] at jobs
        have none := retires.symm.trans (List.filter_eq_nil_iff.mpr fun j mem => by simp [absent j mem])
        rw [jobs] at none
        cases none
    have kept : abandonJob isRetire s = s := by
      unfold abandonJob
      rw [first]
    have head : s.copy.queue.head?.any isRetire = false := by
      rw [head_any_congr absent]
      cases s.copy.queue <;> rfl
    rw [kept, List.filter_eq_self.mpr fun j mem => by simp [absent j mem], head, markAbandoned_false]
    refine ⟨rfl, fun i => ?_⟩
    change redirectAt s i = _
    cases at_ : redirectAt s i with
    | none => rfl
    | some e =>
      rw [Option.bind_some, if_neg fun state => ?_]
      have := copying i e at_ state
      rw [single] at this
      cases this
  | some j =>
    have mem := List.mem_of_find?_eq_some first
    have listed := mem_jobsOf.mpr ⟨mem, (law.isRetire_iff mem).mp (List.find?_some first)⟩
    rw [jobs] at listed
    rw [abandonJob_eq first, eraseP_eq_filter_not few]
    refine ⟨rfl, fun i => ?_⟩
    change redirectAt (removeRedirect j.index s) i = _
    rw [redirectAt_removeRedirect]
    cases retire : s.copy.retire with
    | none =>
      rw [retire] at listed
      cases listed
    | some p =>
      obtain ⟨home, index⟩ := p
      have own : j.index = index := by
        rw [retire, retireJobs, List.mem_singleton] at listed
        rw [listed]
      have entry := law.command.entry home index retire
      cases at_ : redirectAt s i with
      | none => simp
      | some e =>
        rw [Option.bind_some]
        split_ifs with here state state
        · rfl
        · rw [here, own, entry, Option.some.injEq] at at_
          rw [← at_] at state
          exact absurd rfl state
        · have := copying i e at_ state
          rw [retire] at this
          exact absurd (own.trans (Prod.mk.inj (Option.some.inj this)).2).symm here
        · rfl

/-- The soft reset gives the probes and the copies up as the claims have it (R115, R138). -/
theorem softResetEffects_resetAborted (law : Bound s) : resetAborted s (softResetEffects s) := by
  have started : Bound (softResetStart s) := law.of_moves (.of_eq rfl)
  have retired := started.of_retireStopped
  obtain ⟨copy, entry⟩ := abandonRetire_copies started
  have context : ∀ k, contextOf (abandonRetire (softResetStart s)) k = contextOf s k := contextOf_softResetStart
  obtain ⟨jobs, ends⟩ := foldl_abortContext (s := abandonRetire (softResetStart s)) (reason := .reset)
    (measured := fun past v => ResetEnds past (abandonRetire (softResetStart s)) v)
    (fun past k v fresh untouched _ done =>
      ⟨done.next (untouched k fresh), fun m other => contextOf_abortContext_other other⟩)
    allContexts [] _ (by decide) (fun _ _ => rfl) retired .nil ⟨fun m => by simp, rfl, rfl⟩
  have ends : ResetEnds allContexts (abandonRetire (softResetStart s)) (softResetAborts s) := ends
  have jobs : JobsAborted allContexts (abandonRetire (softResetStart s)) (softResetAborts s) := jobs
  have probes : (softResetEffects s).probes = (softResetAborts s).probes := by
    rw [softResetEffects_eq, testUnwind_probes]
  have log : (abandonRetire (softResetStart s)).probes.log = [] := by rw [abandonRetire_probes]; rfl
  have waiting : (abandonRetire (softResetStart s)).probes.waiting = [] := by rw [abandonRetire_probes]; rfl
  have queued : (abandonRetire (softResetStart s)).copy.queue = s.copy.queue.filter fun j => !isRetire j := by
    rw [copy]
    rfl
  have isPark : ∀ j ∈ s.copy.queue, isRetire j = false → allContexts.any (isParkOf · j) = decide (j.kind = .park) :=
    fun j mem other => retired.isPark_iff (by rw [queued, List.mem_filter, other]; exact ⟨mem, rfl⟩)
  refine ⟨fun k => ?_, ?_, ?_, ?_, fun i => ?_⟩
  · rw [contextOf_congr_probes probes, ends.context, if_pos (by fin_cases k <;> decide), context]
    unfold resetContext
    split <;> rename_i state <;> simp only [state]
  · rw [probes, ends.log, log]
  · rw [probes, ends.waiting, waiting]
  · have filtered : (s.copy.queue.filter fun j => !isRetire j).filter (fun j => !allContexts.any (isParkOf · j)) =
        s.copy.queue.filter fun j => decide (j.kind = .restore) := by
      rw [List.filter_filter]
      refine List.filter_congr fun j mem => ?_
      cases other : isRetire j with
      | true => cases kind : j.kind <;> simp_all [isRetire]
      | false =>
        rw [isPark j mem other]
        cases kind : j.kind <;> simp_all [isRetire]
    have head : (s.copy.queue.head?.any isRetire ||
        (s.copy.queue.filter fun j => !isRetire j).head?.any fun j => allContexts.any (isParkOf · j)) =
        s.copy.queue.head?.any fun j => decide (j.kind ≠ .restore) := by
      have split := head_any_filter (A := s.copy.queue) (B := []) (n := isRetire)
        (p := fun j => allContexts.any (isParkOf · j)) nofun
      rw [List.append_nil] at split
      rw [split]
      refine head_any_congr fun j mem => ?_
      cases other : isRetire j with
      | true => cases kind : j.kind <;> simp_all [isRetire]
      | false =>
        rw [isPark j mem other]
        cases kind : j.kind <;> simp_all [isRetire]
    have effects : (softResetEffects s).copy = (softResetAborts s).copy := by rw [softResetEffects_eq, testUnwind_copy]
    have start : (softResetStart s).copy = s.copy := rfl
    rw [effects, jobs.copy, copy, start]
    dsimp only
    rw [markAbandoned_or, filtered, head]
    simp only [context]
    rfl
  · rw [redirectAt_congr (s := softResetAborts s) (by rw [softResetEffects_eq, testUnwind_redirects]), jobs.entry,
      Option.bind_congr fun e at_ => retired.aborted_entry at_, entry]
    have start : redirectAt (softResetStart s) i = redirectAt s i := rfl
    rw [start]
    cases redirectAt s i with
    | none => rfl
    | some e =>
      obtain ⟨home, state, owner⟩ := e
      cases state <;> rfl

end Sys2Proof.Machine
end

section
/-! PROOFS. Outside READY nothing is asked of the part but to bring its rows home (R117, R138, R167, R169). -/

namespace Sys2Proof.Machine

open Sys2Proof

variable {s t u : State}

/-! ### The law in parts -/

/-- The request engine's queues and the log are empty, and no live access is on the port. -/
def Shut (s : State) : Prop :=
  s.requests.requests = [] ∧ s.requests.completions = [] ∧ s.requests.staging = [] ∧ s.probes.log = [] ∧
    liveAccess s = false

/-- A context that is IDLE or brings its row home after a soft reset. -/
def AtHome (c : ProbeContext) : Prop :=
  c.state = .idle ∨ c.state = .restoring ∧ c.abortReason = some .reset

/-- What holds in each controller state. -/
def Unready (s : State) : Prop :=
  match s.controller with
  | none | some .ready => True
  | some .powerup | some .init => Shut s ∧ ∀ k, (contextOf s k).state = .idle
  | some .resetting => Shut s ∧ s.copy.retire = none ∧ (∀ k, AtHome (contextOf s k)) ∧
      ∃ k, (contextOf s k).state = .restoring

theorem AtHome.park {c : ProbeContext} (home : AtHome c) : c.state.park = none ∨ c.state.park = some .parkRestoring := by
  obtain idle | ⟨restoring, -⟩ := home
  · rw [idle]
    exact .inl rfl
  · rw [restoring]
    exact .inr rfl

theorem AtHome.calm {c : ProbeContext} (home : AtHome c) : abortable c.state = false := by
  obtain idle | ⟨restoring, -⟩ := home
  · rw [idle]
    rfl
  · rw [restoring]
    rfl

/-- An unwind is over just when no context brings a row home any more (R169). -/
theorem Bound.unwindEnded_iff (law : Bound s) (resetting : s.controller = some .resetting) (retire : s.copy.retire = none)
    (home : ∀ k, AtHome (contextOf s k)) : unwindEnded s = false ↔ ∃ k, (contextOf s k).state = .restoring := by
  constructor
  · intro goes
    by_contra none
    have idle : ∀ k, (contextOf s k).state = .idle := fun k =>
      (home k).resolve_right fun h => none ⟨k, h.1⟩
    have queue : s.copy.queue = [] := by
      cases queue : s.copy.queue with
      | nil => rfl
      | cons j rest =>
        obtain ⟨k, -, -, -, ⟨-, park⟩ | ⟨-, park⟩⟩ | ⟨-, -, outstanding⟩ := law.head_job queue
        · rw [idle k] at park
          cases park
        · rw [idle k] at park
          cases park
        · rw [retire] at outstanding
          cases outstanding
    have parks : s.redirects.all (fun p => !p.2.state.isPark) = true := List.all_eq_true.mpr fun p mem => by
      obtain ⟨i, -, at_⟩ := exists_index_of_mem law.table mem
      cases owner : p.2.owner with
      | context k =>
        have := ((law.context k).owned i p.2 at_ owner).1
        rw [idle k] at this
        cases this
      | command => simp [(law.command.owned i p.2 at_ owner).1]
    simp [unwindEnded, resetting, queue, parks] at goes
  · rintro ⟨k, restoring⟩
    have some : (jobsOf s (.context k)) ≠ [] := by
      obtain ⟨progress, -, eq⟩ := (law.context k).jobs
      rw [eq, contextJobs, restoring]
      exact List.cons_ne_nil _ _
    have queue : s.copy.queue ≠ [] := fun none => by
      rw [jobsOf, none] at some
      exact some rfl
    simp [unwindEnded, queue]

theorem unreadyLaw_iff : unreadyLaw s ↔ probeLaw s ∧ Unready s := by
  constructor
  · rintro ⟨probes, shut, idle, unwind⟩
    refine ⟨probes, ?_⟩
    have closed : running s = true → isReady s = false → Shut s := shut
    unfold Unready
    cases controller : s.controller with
    | none => trivial
    | some c =>
      cases c with
      | ready => trivial
      | powerup => exact ⟨closed (by simp [running, controller]) (by simp [isReady, controller]), idle (.inl controller)⟩
      | init => exact ⟨closed (by simp [running, controller]) (by simp [isReady, controller]), idle (.inr controller)⟩
      | resetting =>
        obtain ⟨goes, retire, home⟩ := unwind controller
        exact ⟨closed (by simp [running, controller]) (by simp [isReady, controller]), retire, home,
          ((probeLaw_iff.mp probes).2.unwindEnded_iff controller retire home).mp goes⟩
  · rintro ⟨probes, law⟩
    unfold Unready at law
    refine ⟨probes, fun runs unready => ?_, fun early => ?_, fun resetting => ?_⟩
    · cases controller : s.controller with
      | none => simp [running, controller] at runs
      | some c =>
        rw [controller] at law
        cases c with
        | ready => simp [isReady, controller] at unready
        | powerup => exact law.1
        | init => exact law.1
        | resetting => exact law.1
    · obtain controller | controller := early <;> rw [controller] at law <;> exact law.2
    · rw [resetting] at law
      obtain ⟨-, retire, home, restoring⟩ := law
      exact ⟨((probeLaw_iff.mp probes).2.unwindEnded_iff resetting retire home).mpr restoring, retire, home⟩

/-! ### Changes that leave a part outside READY alone -/

/-- A change that leaves a part outside READY as it is. -/
structure Still (s t : State) : Prop where
  controller : t.controller = s.controller
  shut : Shut s → Shut t
  retire : t.copy.retire = s.copy.retire
  context : ∀ k, (contextOf t k).state = (contextOf s k).state ∧ (contextOf t k).abortReason = (contextOf s k).abortReason

theorem Still.of_probes (controller : t.controller = s.controller) (shut : Shut s → Shut t)
    (retire : t.copy.retire = s.copy.retire) (probes : t.probes = s.probes) : Still s t :=
  ⟨controller, shut, retire, fun k => by rw [contextOf_congr_probes probes]; exact ⟨rfl, rfl⟩⟩

theorem Still.refl : Still s s := ⟨rfl, id, rfl, fun _ => ⟨rfl, rfl⟩⟩

theorem Still.trans (first : Still s t) (second : Still t u) : Still s u :=
  ⟨second.controller.trans first.controller, second.shut ∘ first.shut, second.retire.trans first.retire, fun k =>
    ⟨(second.context k).1.trans (first.context k).1, (second.context k).2.trans (first.context k).2⟩⟩

theorem Still.atHome (still : Still s t) {k : ContextId} (home : AtHome (contextOf s k)) : AtHome (contextOf t k) := by
  obtain ⟨state, reason⟩ := still.context k
  unfold AtHome
  rw [state, reason]
  exact home

theorem Unready.of_still (law : Unready s) (still : Still s t) : Unready t := by
  unfold Unready at *
  rw [still.controller]
  generalize s.controller = controller at law
  cases controller with
  | none => trivial
  | some c =>
    cases c with
    | ready => trivial
    | powerup | init =>
      obtain ⟨shut, idle⟩ := law
      exact ⟨still.shut shut, fun k => (still.context k).1.trans (idle k)⟩
    | resetting =>
      obtain ⟨shut, retire, home, k, restoring⟩ := law
      exact ⟨still.shut shut, still.retire.trans retire, fun k => still.atHome (home k), k,
        (still.context k).1.trans restoring⟩

theorem Unready.of_ready (ready : t.controller = some .ready) : Unready t := by
  unfold Unready
  rw [ready]
  trivial

/-- Outside READY every context is at home. -/
theorem Unready.home (law : Unready s) (runs : running s = true) (unready : s.controller ≠ some .ready) (k : ContextId) :
    AtHome (contextOf s k) := by
  unfold Unready at law
  cases controller : s.controller with
  | none => simp [running, controller] at runs
  | some c =>
    rw [controller] at law unready
    cases c with
    | ready => exact absurd rfl unready
    | powerup | init => exact .inl (law.2 k)
    | resetting => exact law.2.2.1 k

theorem Unready.shut (law : Unready s) (runs : running s = true) (unready : s.controller ≠ some .ready) : Shut s := by
  unfold Unready at law
  cases controller : s.controller with
  | none => simp [running, controller] at runs
  | some c =>
    rw [controller] at law unready
    cases c with
    | ready => exact absurd rfl unready
    | powerup | init => exact law.1
    | resetting => exact law.1

/-- A change that keeps the controller state, and outside READY the rest. -/
theorem Unready.keep (law : Unready s) (runs : running s = true) (controller : t.controller = s.controller)
    (still : (∀ k, AtHome (contextOf s k)) → Still s t) : Unready t := by
  by_cases ready : s.controller = some .ready
  · exact .of_ready (controller.trans ready)
  · exact law.of_still (still (law.home runs ready))

/-- A change of no concern to requests, probes and copies. -/
theorem Still.of_eq (same : (t.controller, t.requests, t.copy.retire, t.probes) =
    (s.controller, s.requests, s.copy.retire, s.probes)) : Still s t := by
  simp only [Prod.mk.injEq] at same
  obtain ⟨controller, requests, retire, probes⟩ := same
  refine .of_probes controller ?_ retire probes
  unfold Shut liveAccess
  rw [requests, probes]
  exact id

theorem Heats.still (heats : Heats s t) (controller : t.controller = s.controller) (requests : t.requests = s.requests)
    (home : ∀ k, AtHome (contextOf s k)) : Still s t := by
  have same := heats.same_of_calm fun k => (home k).calm
  refine .of_eq ?_
  rw [controller, requests, same.copy, same.probes]

theorem PassChange.unready (change : PassChange s t) (heats : Heats s t) (law : Unready s) (runs : running s = true) :
    Unready t :=
  law.keep runs change.controller (heats.still change.controller change.requests)

theorem isReady_iff : isReady s = true ↔ s.controller = some .ready := by
  simp [isReady]

/-! ### The request engine -/

theorem endFailedHeads_of_empty (empty : s.requests.requests = []) :
    endFailedHeads s.requests.requests s = s := by
  rw [empty]
  rfl

theorem checkHead_of_empty (empty : s.requests.requests = []) : checkHead s = s := by
  unfold checkHead
  split_ifs
  · rfl
  · exact endFailedHeads_of_empty empty

theorem checkHead_still : Still s (checkHead s) := by
  refine .of_probes ?_ (fun shut => ?_) ?_ ?_
  · rw [checkHead_frame]
  · rw [checkHead_of_empty shut.1]
    exact shut
  · rw [checkHead_frame]
  · rw [checkHead_frame]

theorem endAccess_still (data : List Byte) : Still s (endAccess data s) := by
  refine .of_probes ?_ (fun shut => ?_) ?_ ?_
  · rw [endAccess_frame]
  · obtain ⟨queue, completions, staging, log, live⟩ := id shut
    unfold endAccess
    split
    · exact shut
    · rename_i a access
      have discarded : a.discarded = true := by simpa [liveAccess, access] using live
      simp only [discarded, if_true]
      exact ⟨queue, completions, staging, log, rfl⟩
  · rw [endAccess_frame]
  · rw [endAccess_frame]

/-- With no request in the queue no grant reaches the request engine (R22). -/
theorem arbitrate_requests_of_empty (empty : s.requests.requests = []) : (arbitrate s).requests = s.requests := by
  obtain ⟨eq, -⟩ | ⟨claim, op, -, -, granted, eq⟩ := arbitrate_grants (s := s) <;> rw [eq]
  rw [grantClaim_requests granted]
  cases claim with
  | refresh urgent =>
    obtain ⟨e, rest, head, -⟩ := refresh_descriptor granted
    rw [claimantEffects, takeRefreshHead_eq head, (departDue_departure _).frame]
  | request =>
    obtain ⟨q, rest, head, -⟩ := request_descriptor granted
    rw [empty] at head
    cases head
  | close d | copy | probe k | init => rfl

theorem arbitrate_still : Still s (arbitrate s) := by
  refine ⟨arbitrate_controller s, fun shut => ?_, arbitrate_retire s, fun k => ?_⟩
  · unfold Shut liveAccess at *
    rw [arbitrate_requests_of_empty shut.1, arbitrate_log]
    exact shut
  · obtain ⟨_, eq⟩ := contextOf_arbitrate (s := s) k
    rw [eq]
    exact ⟨rfl, rfl⟩

/-! ### Bursts and jobs -/

theorem patternBurstResult_of_home {k : ContextId} (home : AtHome (contextOf s k)) : patternBurstResult k s = s := by
  unfold patternBurstResult
  obtain idle | ⟨restoring, -⟩ := home
  · simp only [idle]
  · simp only [restoring]

theorem checkBurstResult_of_home {k : ContextId} (differing : List Nat) (home : AtHome (contextOf s k)) :
    checkBurstResult k differing s = s := by
  unfold checkBurstResult
  obtain idle | ⟨restoring, -⟩ := home
  · simp only [idle]
  · simp only [restoring]

@[simp] theorem retireRecord_controller (r : Row) (i : ReservedIndex) :
    (retireRecord r i s).controller = s.controller := by
  unfold retireRecord
  rw [setRecord_controller, (departIfQueued_departure r).frame]

@[simp] theorem parkDone_controller (k : ContextId) : (parkDone k s).controller = s.controller := by
  unfold parkDone
  dsimp only
  split
  · rw [setContext_controller, setRecord_controller, (departIfQueued_departure _).frame]
  all_goals rfl

@[simp] theorem restoreDone_controller (k : ContextId) : (restoreDone k s).controller = s.controller := by
  have outcome : ∀ c, (applyOutcome c s).controller = s.controller := fun c => by
    unfold applyOutcome
    split <;> rfl
  have saved : ∀ c, (reinstate c s).controller = s.controller := fun c => by
    unfold reinstate
    split <;> rfl
  unfold restoreDone
  dsimp only
  split
  · split
    · rw [(enterDone_probeChange _ _ _).controller, outcome]
    · rw [setContext_controller, saved]
    · rw [(enterDone_probeChange _ _ _).controller, saved]
    · rw [(enterDone_probeChange _ _ _).controller, saved]
  all_goals rfl

theorem tellOwner_controller {tell : ContextId → State → State} (told : ∀ k, (tell k s).controller = s.controller)
    (owner : Owner) : (tellOwner tell owner s).controller = s.controller := by
  cases owner with
  | context k => exact told k
  | command => rfl

/-- The end of a job leaves READY alone (R169). -/
theorem jobDone_ready (j : CopyJob) (ready : s.controller = some .ready) : (jobDone j s).controller = some .ready := by
  unfold jobDone
  split
  · rw [tellOwner_controller fun k => parkDone_controller k, (changeRedirect_probeChange _ _ _ _).controller, ready]
  · obtain ⟨-, h⟩ | ⟨-, h⟩ := testUnwind_cases (tellOwner restoreDone j.owner (removeRedirect j.index s)) <;> rw [h]
    · rfl
    · rw [tellOwner_controller fun k => restoreDone_controller k]
      exact ready
  · change (retireRecord j.home j.index (changeRedirect j.index .spareActive .command s)).controller = some .ready
    rw [retireRecord_controller, (changeRedirect_probeChange _ _ _ _).controller, ready]

@[simp] theorem finishProbe_controller (k : ContextId) : (finishProbe k s).controller = s.controller := by
  unfold finishProbe
  dsimp only
  split_ifs
  · rw [convert_eq, (enterDone_probeChange _ _ _).controller, retireRecord_controller,
      (changeRedirect_probeChange _ _ _ _).controller, setContext_controller]
  · rw [(beginRestore_probeChange _ _).controller, setContext_controller]

@[simp] theorem checkBurstResult_controller (k : ContextId) (differing : List Nat) :
    (checkBurstResult k differing s).controller = s.controller := by
  unfold checkBurstResult
  split
  · dsimp only
    split_ifs
    · rfl
    · unfold endTrial
      dsimp only
      split_ifs <;> simp only [finishProbe_controller, setContext_controller]
  all_goals rfl

/-- The bonds of a part outside READY: a copy job there is a RESTORE, after a soft reset. -/
theorem Bound.home_job (law : Bound s) (home : ∀ k, AtHome (contextOf s k)) (retire : s.copy.retire = none) {j : CopyJob}
    {rest : List CopyJob} (queue : s.copy.queue = j :: rest) : ∃ k, j.owner = .context k ∧ j.kind = .restore ∧
      (contextOf s k).state = .restoring ∧ (contextOf s k).abortReason = some .reset := by
  obtain ⟨k, owner, -, -, ⟨-, park⟩ | ⟨kind, park⟩⟩ | ⟨-, -, outstanding⟩ := law.head_job queue
  · rw [ContextState.park_eq_parkCopying] at park
    obtain idle | ⟨restoring, -⟩ := home k
    · rw [park] at idle
      cases idle
    · rw [park] at restoring
      cases restoring
  · have restoring := ContextState.park_eq_parkRestoring.mp park
    obtain idle | back := home k
    · rw [restoring] at idle
      cases idle
    · exact ⟨k, owner, kind, back⟩
  · rw [retire] at outstanding
    cases outstanding

/-- The end of a RESTORE job in RESETTING: one more context is IDLE, or the unwind ends (R138, R169). -/
theorem Unready.of_restored (law : Unready s) (bound : Bound s) (resetting : s.controller = some .resetting) {j : CopyJob}
    {rest : List CopyJob} (queue : s.copy.queue = j :: rest) : Unready (jobDone j (jobTaken rest s)) := by
  have after := bound.of_moves (jobDone_moves bound queue)
  unfold Unready at law
  rw [resetting] at law
  obtain ⟨shut, retire, home, -⟩ := law
  obtain ⟨k, owner, kind, restoring, reason⟩ := bound.home_job home retire queue
  have done : jobDone j (jobTaken rest s) = testUnwind (restoreDone k (removeRedirect j.index (jobTaken rest s))) := by
    unfold jobDone
    rw [kind, owner]
    rfl
  have context : contextOf (removeRedirect j.index (jobTaken rest s)) k = contextOf s k := rfl
  have restored : restoreDone k (removeRedirect j.index (jobTaken rest s)) = setContext k
      { contextOf s k with state := .idle, outcome := none }
      (reinstate (contextOf s k) (removeRedirect j.index (jobTaken rest s))) := by
    unfold restoreDone
    simp only [context, restoring, reason]
  have controlled : (reinstate (contextOf s k) (removeRedirect j.index (jobTaken rest s))).controller = some .resetting := by
    unfold reinstate
    split <;> exact resetting
  have probes := reinstate_probes (s := removeRedirect j.index (jobTaken rest s)) (contextOf s k)
  have change := reinstate_jobChange (removeRedirect j.index (jobTaken rest s)) (contextOf s k)
  have copy := reinstate_copy (s := removeRedirect j.index (jobTaken rest s)) (contextOf s k)
  rw [restored] at done
  rw [done] at after ⊢
  generalize reinstate (contextOf s k) (removeRedirect j.index (jobTaken rest s)) = v at *
  obtain ⟨-, h⟩ | ⟨goes, h⟩ := testUnwind_cases (setContext k { contextOf s k with state := .idle, outcome := none } v)
  · rw [h]
    exact .of_ready rfl
  · rw [h] at after ⊢
    have contexts : ∀ m, contextOf (setContext k { contextOf s k with state := .idle, outcome := none } v) m =
        if m = k then { contextOf s k with state := .idle, outcome := none } else contextOf s m := fun m => by
      rw [contextOf_setContext, contextOf_congr_probes probes]
      rfl
    have homes : ∀ m, AtHome (contextOf (setContext k { contextOf s k with state := .idle, outcome := none } v) m) :=
      fun m => by
        rw [contexts]
        split_ifs
        · exact .inl rfl
        · exact home m
    have left : (setContext k { contextOf s k with state := .idle, outcome := none } v).copy.retire = none := by
      rw [setContext_copy, copy]
      exact retire
    have still : Shut (setContext k { contextOf s k with state := .idle, outcome := none } v) := by
      have log : v.probes.log = s.probes.log := by rw [probes]; rfl
      have requests : v.requests = s.requests := change.requests
      unfold Shut liveAccess
      rw [setContext_requests, requests, setContext_probes, log]
      exact shut
    have unended := (after.unwindEnded_iff controlled left homes).mp goes
    unfold Unready
    rw [setContext_controller, controlled]
    exact ⟨still, left, homes, unended⟩

/-- The end of a job outside READY: a RESTORE's in RESETTING, and in POWERUP and INIT at most a RETIRE's. -/
theorem Unready.of_jobDone (law : Unready s) (bound : Bound s) (runs : running s = true) {j : CopyJob} {rest : List CopyJob}
    (queue : s.copy.queue = j :: rest) : Unready (jobDone j (jobTaken rest s)) := by
  by_cases ready : s.controller = some .ready
  · exact .of_ready (jobDone_ready j ready)
  by_cases resetting : s.controller = some .resetting
  · exact law.of_restored bound resetting queue
  have early : Shut s ∧ ∀ k, (contextOf s k).state = .idle := by
    unfold Unready at law
    cases controller : s.controller with
    | none => simp [running, controller] at runs
    | some c =>
      rw [controller] at law
      cases c with
      | ready => exact absurd controller ready
      | resetting => exact absurd controller resetting
      | powerup | init => exact law
  obtain ⟨k, -, -, -, ⟨-, park⟩ | ⟨-, park⟩⟩ | ⟨-, kind, -⟩ := bound.head_job queue
  · rw [early.2 k] at park
    cases park
  · rw [early.2 k] at park
    cases park
  have requests := (jobDone_jobChange (jobTaken rest s) j).requests
  have probes : (jobDone j (jobTaken rest s)).probes = s.probes := by
    unfold jobDone
    rw [kind]
    change (retireRecord j.home j.index (changeRedirect j.index .spareActive .command (jobTaken rest s))).probes = _
    rw [retireRecord_probes, changeRedirect_probes]
    rfl
  have controller : (jobDone j (jobTaken rest s)).controller = s.controller := by
    unfold jobDone
    rw [kind]
    change (retireRecord j.home j.index (changeRedirect j.index .spareActive .command (jobTaken rest s))).controller = _
    rw [retireRecord_controller, (changeRedirect_probeChange _ _ _ _).controller]
    rfl
  have shut : Shut (jobDone j (jobTaken rest s)) := by
    unfold Shut liveAccess
    rw [requests, probes]
    exact early.1
  unfold Unready
  rw [controller]
  split
  · trivial
  · trivial
  · exact ⟨shut, fun k => by rw [contextOf_congr_probes probes]; exact early.2 k⟩
  · exact ⟨shut, fun k => by rw [contextOf_congr_probes probes]; exact early.2 k⟩
  · exact absurd ‹_› resetting

theorem Unready.of_copyBurstResult (law : Unready s) (bound : Bound s) (runs : running s = true) :
    Unready (copyBurstResult s) := by
  unfold copyBurstResult
  split
  · exact law
  · have freed : Unready { s with copy := { s.copy with engine := .idle } } := law.of_still (.of_eq rfl)
    have bound : Bound { s with copy := { s.copy with engine := .idle } } := bound.of_moves (.of_eq rfl)
    have runs : running { s with copy := { s.copy with engine := .idle } } = true := runs
    dsimp only
    split_ifs
    · exact freed
    · generalize ({ s with copy := { s.copy with engine := .idle } } : State) = v at freed bound runs
      unfold advanceJob
      split
      · exact freed
      · rename_i j rest queue
        split_ifs
        · exact freed.of_still (.of_eq rfl)
        · exact freed.of_jobDone bound runs queue

/-! ### Every step -/

theorem Unready.of_softReset (bound : Bound s) : Unready (softResetEffects s) := by
  obtain ⟨contexts, log, -, copy, -⟩ := softResetEffects_resetAborted bound
  have after := bound.of_moves softResetEffects_moves
  have homes : ∀ k, AtHome (contextOf (softResetEffects s) k) := fun k => by
    rw [contexts]
    split
    · exact .inl ‹_›
    · exact .inl rfl
    · exact .inr ⟨rfl, rfl⟩
    · exact .inr ⟨rfl, rfl⟩
    · exact .inr ⟨rfl, rfl⟩
    · exact .inr ⟨‹_›, rfl⟩
    · exact .inl rfl
  have retire : (softResetEffects s).copy.retire = none := by rw [copy]
  have shut : Shut (softResetEffects s) := by
    unfold Shut liveAccess
    rw [softResetEffects_requests, log]
    refine ⟨rfl, rfl, rfl, rfl, ?_⟩
    unfold softResetRequests
    cases s.requests.access <;> rfl
  have cleared : (softResetAborts s).controller = some .resetting := by
    rw [softResetAborts, (abortAll_probeChange _ _).controller]
    exact (abandonJob_probeChange _ _).controller
  obtain ⟨-, eq⟩ | ⟨goes, eq⟩ := testUnwind_cases { softResetAborts s with host := clearHost (softResetAborts s).host }
  · refine .of_ready ?_
    rw [softResetEffects_eq, eq]
    rfl
  · rw [← softResetEffects_eq] at eq
    have resetting : (softResetEffects s).controller = some .resetting := by
      rw [eq]
      exact cleared
    rw [← eq] at goes
    unfold Unready
    rw [resetting]
    exact ⟨shut, retire, homes, (after.unwindEnded_iff resetting retire homes).mp goes⟩

theorem Accepted.controller (accepted : Accepted s t) : t.controller = s.controller := by
  cases accepted with
  | probeAbort k running => exact (abortContext_probeChange s .host k).controller
  | recordWrite o status =>
    unfold writeRecord
    split_ifs
    · exact retireRecord_controller (s := setRedirect o.spare { home := o.row, state := .spareActive, owner := .command } s)
        o.row o.spare
    · rfl
  | logPop e rest head => exact (serveWaiting_probeChange _).controller
  | tempSupply reading => exact (readingArrives_passChange s reading).controller
  | _ => rfl

theorem Unready.of_arbitrated (law : Unready s) (bound : Bound s) (runs : running s = true) (change : Arbitrated s u) :
    Unready u := by
  cases change with
  | nothing => exact law
  | pauseExpired powerup =>
    unfold Unready at law
    rw [powerup] at law
    exact law
  | initCycle row op => exact law.of_still (.of_eq rfl)
  | initEnded row op => exact .of_ready rfl
  | rowRefresh row op => exact law.of_still (.of_eq rfl)
  | rowClose d op => exact law.of_still (.of_eq rfl)
  | hostAccess decay target kind column length bytes pageOpen hit op =>
    have done : Still s (openRowAtCompletion target pageOpen hit (freePort (hostArrayEffect target kind column bytes decay s))) := by
      rw [hostArrayEffect_eq]
      exact .of_eq rfl
    exact law.of_still (done.trans (endAccess_still _))
  | failedHead => exact law.of_still checkHead_still
  | popped c rest head =>
    have popped : Unready { s with requests := { s.requests with completions := rest, cursor := 0 } } :=
      law.keep runs rfl fun homes => by
        refine .of_probes rfl (fun shut => ?_) rfl rfl
        obtain ⟨-, empty, -⟩ := shut
        rw [head] at empty
        cases empty
    exact popped.of_still checkHead_still
  | posted q ready empty =>
    refine .of_ready ?_
    rw [checkHead_controller]
    exact isReady_iff.mp ready
  | copyBurst decay source target burst op =>
    have freed : Still s (closeDevice target.device (closeDevice source.device
        (freePort (copyArrayEffect source target burst decay s)))) := by
      obtain ⟨array, buffer, eq⟩ := copyArrayEffect_frame (s := s) source target burst decay
      rw [eq]
      exact .of_eq rfl
    have moved : Moves s (closeDevice target.device (closeDevice source.device
        (freePort (copyArrayEffect source target burst decay s)))) := by
      obtain ⟨array, buffer, eq⟩ := copyArrayEffect_frame (s := s) source target burst decay
      rw [eq]
      exact .of_eq rfl
    exact (law.of_still freed).of_copyBurstResult (bound.of_moves moved) (by unfold running; rw [freed.controller]; exact runs)
  | unwindEnd =>
    obtain ⟨-, eq⟩ | ⟨-, eq⟩ := testUnwind_cases s <;> rw [eq]
    · exact .of_ready rfl
    · exact law
  | patternBurst k row burst bytes op =>
    refine law.keep runs (patternBurstResult_probeChange _ k).controller fun homes => ?_
    rw [patternBurstResult_of_home (s := closeDevice row.device (freePort
      (writeBytes row (Config.burstColumns * burst) bytes s))) (homes k)]
    exact .of_eq rfl
  | checkBurst decay k row burst expected differing op =>
    refine law.keep runs ?_ fun homes => ?_
    · rw [checkBurstResult_controller]
      rfl
    · rw [checkBurstResult_of_home (s := closeDevice row.device (freePort (applyDecay row decay s))) _ (homes k)]
      exact .of_eq rfl
  | openRowExpired d running => exact law.of_still (.of_eq rfl)
  | sliceExpired room => exact (PassChange.unready (takeExpiry_passChange s) takeExpiry_heats law runs).of_still (.of_eq rfl)
  | sensorTimeout => exact PassChange.unready (testSensorTimeout_passChange s) testSensorTimeout_heats law runs
  | heldExpiry => exact PassChange.unready (releaseHeld_passChange s) releaseHeld_heats law runs
  | visit c cursor =>
    obtain ⟨records, change⟩ := visitRow_passChange (s := s) c
    exact law.keep runs change.controller fun homes => (visitRow_heats c).still change.controller change.requests homes
  | forcedClear =>
    rw [testForced_eq]
    exact law.of_still (.of_eq rfl)
  | stretchExpired k stretch =>
    refine law.keep runs rfl fun homes => ?_
    obtain idle | ⟨restoring, -⟩ := homes k
    · rw [stretch] at idle
      cases idle
    · rw [stretch] at restoring
      cases restoring
  | conversion reading =>
    have ended : Unready { s with supervisor := { s.supervisor with conversion := .idle } } := law.of_still (.of_eq rfl)
    exact PassChange.unready (readingArrives_passChange _ reading) (readingArrives_heats reading) ended runs
  | softReset ready => exact .of_softReset bound
  | sensorMode external config mode legal =>
    have changed : Unready (sensorChanged external { s with config := config }) := law.of_still (.of_eq rfl)
    exact PassChange.unready (enterThermal_passChange _ .hot) (enterThermal_heats .hot) changed runs
  | command code t ready accepted =>
    refine .of_ready ?_
    rw [setCommandStatus_controller, accepted.controller]
    exact isReady_iff.mp ready

theorem Unready.of_unarbitrated (law : Unready s) (log : logLaw s) (change : Unarbitrated s t) : Unready t := by
  cases change with
  | nothing => exact law
  | time =>
    refine law.of_still ⟨rfl, id, rfl, fun k => ?_⟩
    rw [contextOf_tickTimers]
    exact ⟨rfl, rfl⟩
  | asserted => trivial
  | released straps => exact ⟨⟨rfl, rfl, rfl, rfl, rfl⟩, fun k => by fin_cases k <;> rfl⟩
  | logWait =>
    rw [serveWaiting_of_law log]
    exact law
  | held full => exact law.of_still (.of_eq rfl)
  | discarded => exact law.of_still (.of_eq rfl)
  | window host requests interrupt queue access completions staging =>
    obtain same | ⟨ready, -⟩ := staging
    · refine law.of_still (.of_probes rfl (fun shut => ?_) rfl rfl)
      unfold Shut liveAccess at *
      dsimp only
      rw [queue, completions, same, access]
      exact shut
    · exact .of_ready (isReady_iff.mp ready)
  | posted q ready room behind => exact .of_ready (isReady_iff.mp ready)
  | configured config mode legal => exact law.of_still (.of_eq rfl)

/-- Settles O18: outside READY nothing but a RESTORE of a soft reset is under way, and its end is the end of the unwind or leaves
another. -/
theorem stepKeepsUnreadyLaw : Obligations.StepKeepsUnreadyLaw := by
  intro s t law h
  rw [unreadyLaw_iff] at law ⊢
  obtain ⟨probes, law⟩ := law
  refine ⟨step_probeLaw probes h, step_keeps (premise := probeLaw) (fun _ _ law => law) (fun _ _ law => law) ?_ ?_ ?_ probes law h⟩
  · exact fun s t probes law => law.of_unarbitrated probes.2.1
  · exact fun s u probes law => law.of_arbitrated (probeLaw_iff.mp probes).2
  · exact fun s law => law.of_still arbitrate_still

end Sys2Proof.Machine
end

section
/-! PROOFS. The tables and the array stay in their canonical form. -/

namespace Sys2Proof.Machine

open Sys2Proof

variable {s t u : State}

/-- The retention table and the redirect table stand in their canonical form. -/
structure Tables (s : State) : Prop where
  records : Sparse.rising s.records
  unlisted : ∀ r : Row, Sparse.find (rowKey r) s.records ≠ some (powerOnRecord r)
  redirects : Sparse.rising s.redirects

theorem tablesCanonical_iff : tablesCanonical s ↔ Memory.wf s.array ∧ Tables s :=
  ⟨fun ⟨array, records, redirects, unlisted⟩ => ⟨array, records, unlisted, redirects⟩,
    fun ⟨array, records, unlisted, redirects⟩ => ⟨array, records, redirects, unlisted⟩⟩

/-! ### The operations -/

theorem Tables.of_eq (law : Tables s) (records : t.records = s.records) (redirects : t.redirects = s.redirects) : Tables t :=
  ⟨records ▸ law.records, records ▸ law.unlisted, redirects ▸ law.redirects⟩

theorem Tables.of_setRecord (law : Tables s) (r : Row) (record : Record) : Tables (setRecord r record s) :=
  ⟨setRecord_rising law.records r record, setRecord_unlisted law.unlisted r record, law.redirects⟩

theorem Tables.of_setRedirect (law : Tables s) (i : ReservedIndex) (e : RedirectEntry) : Tables (setRedirect i e s) :=
  ⟨law.records, law.unlisted, Sparse.rising_insert e law.redirects⟩

theorem Tables.of_removeRedirect (law : Tables s) (i : ReservedIndex) : Tables (removeRedirect i s) :=
  ⟨law.records, law.unlisted, Sparse.rising_erase i.val law.redirects⟩

/-- A change that leaves the records alone. -/
theorem Tables.of_redirects (law : Tables s) (records : t.records = s.records) (redirects : Sparse.rising t.redirects) :
    Tables t :=
  ⟨records ▸ law.records, records ▸ law.unlisted, redirects⟩

theorem Tables.of_changeRedirect (law : Tables s) (i : ReservedIndex) (state : RedirectState) (owner : Owner) :
    Tables (changeRedirect i state owner s) :=
  law.of_redirects (changeRedirect_probeChange s i state owner).records (changeRedirect_rising law.redirects i state owner)

theorem Tables.of_departDue (law : Tables s) (r : Row) : Tables (departDue r s) := by
  obtain ⟨_, _, eq, -⟩ := departDue_eq s r
  rw [eq]
  exact (law.of_setRecord r { recordOf s r with queued := false }).of_eq rfl rfl

theorem Tables.of_departIfQueued (law : Tables s) (r : Row) : Tables (departIfQueued r s) := by
  unfold departIfQueued
  split_ifs
  · exact law.of_departDue r
  · exact law

theorem Tables.of_retireRecord (law : Tables s) (r : Row) (i : ReservedIndex) : Tables (retireRecord r i s) :=
  (law.of_departIfQueued r).of_setRecord _ _

theorem Tables.of_enterDone (law : Tables s) (k : ContextId) (outcome : PendingOutcome) : Tables (enterDone k outcome s) :=
  law.of_eq (enterDone_probeChange s k outcome).records (enterDone_redirects k outcome)

/-! ### The aborts -/

theorem abandonJob_rising (isJob : CopyJob → Bool) (rising : Sparse.rising s.redirects) :
    Sparse.rising (abandonJob isJob s).redirects := by
  obtain ⟨-, eq⟩ | ⟨j, _, -, eq, -⟩ := abandonJob_cases s isJob <;> rw [eq]
  · exact rising
  · exact Sparse.rising_erase _ rising

theorem beginRestore_rising (k : ContextId) (rising : Sparse.rising s.redirects) : Sparse.rising (beginRestore k s).redirects := by
  rw [beginRestore_eq]
  exact changeRedirect_rising rising _ _ _

theorem abortContext_rising (reason : AbortReason) (k : ContextId) (rising : Sparse.rising s.redirects) :
    Sparse.rising (abortContext reason k s).redirects := by
  have running : ∀ c, Sparse.rising (beginRestore k (setContext k c s)).redirects := fun c =>
    beginRestore_rising (s := setContext k c s) k rising
  unfold abortContext
  split
  · rw [(abortParking_ends (s := s) reason k).redirects]
    exact abandonJob_rising (isParkOf k) rising
  · exact running _
  · exact running _
  · exact running _
  · split_ifs <;> exact rising
  · split_ifs <;> exact rising
  · exact rising

theorem abortAll_rising (reason : AbortReason) (rising : Sparse.rising s.redirects) :
    Sparse.rising (abortAll reason s).redirects := by
  unfold abortAll
  generalize allContexts = l
  induction l generalizing s with
  | nil => exact rising
  | cons k rest ih => exact ih (abortContext_rising reason k rising)

/-- A change in which only an entry into HOT reaches the redirect table. -/
theorem Tables.of_heats (law : Tables s) (heats : Heats s t) (records : t.records = s.records) : Tables t := by
  refine law.of_redirects records ?_
  by_cases cool : s.supervisor.thermal = .hot ∨ t.supervisor.thermal ≠ .hot
  · exact (heats.calm cool).redirects ▸ law.redirects
  · obtain ⟨cold, hot⟩ : s.supervisor.thermal ≠ .hot ∧ t.supervisor.thermal = .hot := by simpa using cool
    obtain ⟨v, same, aborted⟩ := heats.heated cold hot
    rw [aborted.redirects]
    exact abortAll_rising .thermal (same.redirects ▸ law.redirects)

theorem Tables.of_pass (law : Tables s) (change : PassChange s t) (heats : Heats s t) : Tables t :=
  law.of_heats heats change.records

/-! ### Jobs and probes -/

theorem Tables.of_parkDone (law : Tables s) (k : ContextId) : Tables (parkDone k s) := by
  unfold parkDone
  dsimp only
  split
  · exact ((law.of_departIfQueued (contextOf s k).target).of_setRecord _ _).of_eq rfl rfl
  all_goals exact law

theorem Tables.of_restoreDone (law : Tables s) (k : ContextId) : Tables (restoreDone k s) := by
  have outcome : ∀ c, Tables (applyOutcome c s) := fun c => by
    unfold applyOutcome
    split
    · exact law
    · exact law.of_setRecord _ _
  have saved : ∀ c, Tables (reinstate c s) := fun c => by
    unfold reinstate
    split
    · exact law
    · exact law.of_setRecord _ _
  unfold restoreDone
  dsimp only
  split
  · split
    · exact (outcome _).of_enterDone _ _
    · exact (saved _).of_eq rfl rfl
    · exact (saved _).of_enterDone _ _
    · exact (saved _).of_enterDone _ _
  all_goals exact law

theorem Tables.of_tellOwner {tell : ContextId → State → State} (law : Tables s)
    (told : ∀ {v : State}, Tables v → ∀ k, Tables (tell k v)) (owner : Owner) : Tables (tellOwner tell owner s) := by
  cases owner with
  | context k => exact told law k
  | command => exact law

theorem Tables.of_jobDone (law : Tables s) (j : CopyJob) : Tables (jobDone j s) := by
  unfold jobDone
  split
  · have held := law.of_changeRedirect j.index .parkHeld j.owner
    exact held.of_tellOwner (fun law k => law.of_parkDone k) j.owner
  · refine Tables.of_eq (s := tellOwner restoreDone j.owner (removeRedirect j.index s)) ?_ testUnwind_records testUnwind_redirects
    have freed := law.of_removeRedirect j.index
    exact freed.of_tellOwner (fun law k => law.of_restoreDone k) j.owner
  · exact ((law.of_changeRedirect j.index .spareActive .command).of_retireRecord j.home j.index).of_eq rfl rfl

theorem Tables.of_copyBurstResult (law : Tables s) : Tables (copyBurstResult s) := by
  unfold copyBurstResult
  split
  · exact law
  · have freed : Tables { s with copy := { s.copy with engine := .idle } } := law.of_eq rfl rfl
    dsimp only
    split_ifs
    · exact freed
    · unfold advanceJob
      split
      · exact freed
      · split_ifs
        · exact freed.of_eq rfl rfl
        · rename_i j rest _ _
          have taken : Tables (jobTaken rest { s with copy := { s.copy with engine := .idle } }) := freed.of_eq rfl rfl
          exact taken.of_jobDone j

theorem Tables.of_finishProbe (law : Tables s) (k : ContextId) : Tables (finishProbe k s) := by
  have found : ∀ c, Tables (setContext k c s) := fun c => law.of_eq rfl rfl
  unfold finishProbe
  dsimp only
  split_ifs
  · rw [convert_eq]
    exact (((found _).of_changeRedirect _ _ _).of_retireRecord _ _).of_enterDone _ _
  · exact (found _).of_redirects (beginRestore_probeChange _ _).records (beginRestore_rising k (found _).redirects)

/-- A check burst's completion for a context in CHECKING: the burst counts, and the eighth ends the trial (R128 to R131). -/
theorem checkBurstResult_eq {k : ContextId} (differing : List Nat) (checking : (contextOf s k).state = .checking)
    {c : ProbeContext} (counted : countBurst differing (contextOf s k) = c) : checkBurstResult k differing s =
      if c.burstsDone < 8 then setContext k c s
      else if c.mismatch = 0 then
        if c.trial < c.trials then setContext k { enterWriting c with trial := c.trial + 1 } s
        else if c.mode = .search ∧ c.step < 16 then
          setContext k { enterWriting c with lastPassed := c.step, step := c.step * 2, trial := 1 } s
        else finishProbe k (setContext k { c with lastPassed := c.step } s)
      else finishProbe k (setContext k { c with failingStep := some c.step, failingMismatch := c.mismatch } s) := by
  unfold checkBurstResult endTrial
  simp only [checking, counted, contextOf_setContext_same, setContext_setContext, Config.burstsPerRow]

/-- The contexts that are not in CHECKING discard a check burst (R136). -/
theorem checkBurstResult_of_other {k : ContextId} (differing : List Nat) (other : (contextOf s k).state ≠ .checking) :
    checkBurstResult k differing s = s := by
  unfold checkBurstResult
  split
  · exact absurd ‹_› other
  all_goals rfl

theorem Tables.of_checkBurstResult (law : Tables s) (k : ContextId) (differing : List Nat) :
    Tables (checkBurstResult k differing s) := by
  have counted : ∀ c, Tables (setContext k c s) := fun c => law.of_eq rfl rfl
  by_cases checking : (contextOf s k).state = .checking
  · rw [checkBurstResult_eq differing checking rfl]
    split_ifs
    · exact counted _
    · exact counted _
    · exact counted _
    · exact (counted _).of_finishProbe k
    · exact (counted _).of_finishProbe k
  · rw [checkBurstResult_of_other differing checking]
    exact law

theorem Tables.of_visitRow (law : Tables s) (c : ScanCursor) : Tables (visitRow c s) := by
  have aged : Tables (ageDemotion c.visited s) := by
    obtain ⟨-, -, eq⟩ | ⟨-, eq⟩ := ageDemotion_cases s c.visited <;> rw [eq]
    · exact (law.of_setRecord _ _).of_eq rfl rfl
    · exact law
  have advanced : ∀ {v : State}, Tables v → Tables (advanceScan c v) := fun law =>
    law.of_pass (advanceScan_passChange _ c) (advanceScan_heats c)
  obtain ⟨-, -, -, eq⟩ | ⟨-, -, -, eq⟩ | ⟨-, eq⟩ := visitRow_cases (s := s) c <;> rw [eq]
  · exact aged.of_eq rfl rfl
  · exact advanced ((aged.of_setRecord c.visited
      { recordOf (ageDemotion c.visited s) c.visited with queued := true }).of_eq rfl rfl)
  · exact advanced aged

theorem Tables.of_softReset (law : Tables s) : Tables (softResetEffects s) := by
  have retired : Sparse.rising (abandonRetire (softResetStart s)).redirects :=
    abandonJob_rising (s := softResetStart s) isRetire law.redirects
  have aborted := abortAll_rising .reset retired
  refine Tables.of_redirects (s := s) law ?_ ?_
  · rw [softResetEffects_eq, testUnwind_records]
    change (softResetAborts s).records = _
    rw [softResetAborts, (abortAll_probeChange _ _).records]
    exact (abandonJob_probeChange _ _).records
  · rw [softResetEffects_eq, testUnwind_redirects]
    exact aborted

/-! ### Every step -/

theorem Tables.of_accepted (law : Tables s) (accepted : Accepted s t) : Tables t := by
  cases accepted with
  | probeStart o mode pattern k i => exact (law.of_setRedirect i _).of_eq rfl rfl
  | probeAbort k running =>
    exact law.of_redirects (abortContext_probeChange s .host k).records (abortContext_rising .host k law.redirects)
  | retire home i => exact (law.of_setRedirect i _).of_eq rfl rfl
  | recordRead r => exact law.of_eq rfl rfl
  | recordWrite o status =>
    unfold writeRecord
    split_ifs
    · exact ((law.of_setRedirect o.spare _).of_retireRecord o.row o.spare).of_eq rfl rfl
    · exact (law.of_setRecord o.row _).of_eq rfl rfl
  | logRead w => exact law.of_eq rfl rfl
  | logPop e rest head =>
    refine Tables.of_eq (s := { s with probes := { s.probes with log := rest } }) (law.of_eq rfl rfl)
      (serveWaiting_probeChange _).records ?_
    unfold serveWaiting
    split
    · rfl
    · split_ifs <;> rfl
  | tempSupply reading =>
    exact (law.of_pass (readingArrives_passChange s reading) (readingArrives_heats reading)).of_eq rfl rfl

theorem Tables.of_grant (law : Tables s) (claim : Claim) : Tables (grantClaim claim s) := by
  have effects : Tables (claimantEffects claim s) := by
    cases claim with
    | refresh urgent =>
      unfold claimantEffects takeRefreshHead
      dsimp only
      split
      · exact law
      · have busy : Tables { s with scheduler := { s.scheduler with refreshing := true } } := law.of_eq rfl rfl
        exact busy.of_departDue _
    | request =>
      unfold claimantEffects fillAccessRecord
      dsimp only
      split
      · exact law
      · exact law.of_eq rfl rfl
    | close d | copy | probe k | init => exact law.of_eq rfl rfl
  unfold grantClaim
  split
  · exact law
  · rename_i op _
    have credited : ∀ (rows : List Row) (v : State), Tables v → Tables (rows.foldl (fun w r => departIfQueued r w) v) := by
      intro rows
      induction rows with
      | nil => exact fun _ => id
      | cons r rest ih => exact fun v law => ih _ (law.of_departIfQueued r)
    refine credited _ _ (effects.of_eq ?_ ?_) <;> rw [openRowEffects_eq] <;> rfl

theorem Tables.of_arbitrate (law : Tables s) : Tables (arbitrate s) := by
  obtain ⟨-, eq⟩ | ⟨-, -, eq⟩ | ⟨claim, -, -, eq⟩ := arbitrate_cases s <;> rw [eq]
  · exact law
  · exact law
  · exact law.of_grant claim

theorem Tables.of_arbitrated (law : Tables s) (change : Arbitrated s u) : Tables u := by
  cases change with
  | nothing => exact law
  | pauseExpired powerup => exact law.of_eq rfl rfl
  | initCycle row op => exact law.of_eq rfl rfl
  | initEnded row op => exact law.of_eq rfl rfl
  | rowRefresh row op => exact law.of_eq rfl rfl
  | rowClose d op => exact law.of_eq rfl rfl
  | hostAccess decay target kind column length bytes pageOpen hit op =>
    rw [endAccess_frame, hostArrayEffect_eq]
    exact law.of_eq rfl rfl
  | failedHead =>
    rw [checkHead_frame]
    exact law.of_eq rfl rfl
  | popped c rest head =>
    rw [checkHead_frame]
    exact law.of_eq rfl rfl
  | posted q ready empty =>
    rw [checkHead_frame]
    exact law.of_eq rfl rfl
  | copyBurst decay source target burst op =>
    have moved : Tables (closeDevice target.device (closeDevice source.device
        (freePort (copyArrayEffect source target burst decay s)))) := law.of_eq rfl rfl
    exact moved.of_copyBurstResult
  | unwindEnd => exact law.of_eq testUnwind_records testUnwind_redirects
  | patternBurst k row burst bytes op =>
    refine law.of_eq (patternBurstResult_probeChange _ k).records ?_
    unfold patternBurstResult
    dsimp only
    split
    · split_ifs <;> rfl
    all_goals rfl
  | checkBurst decay k row burst expected differing op =>
    have read : Tables (closeDevice row.device (freePort (applyDecay row decay s))) := law.of_eq rfl rfl
    exact read.of_checkBurstResult k differing
  | openRowExpired d runs => exact law.of_eq rfl rfl
  | sliceExpired room => exact (law.of_pass (takeExpiry_passChange s) takeExpiry_heats).of_eq rfl rfl
  | sensorTimeout => exact law.of_pass (testSensorTimeout_passChange s) testSensorTimeout_heats
  | heldExpiry => exact law.of_pass (releaseHeld_passChange s) releaseHeld_heats
  | visit c cursor => exact law.of_visitRow c
  | forcedClear =>
    rw [testForced_eq]
    exact law.of_eq rfl rfl
  | stretchExpired k stretch => exact law.of_eq rfl rfl
  | conversion reading =>
    have ended : Tables { s with supervisor := { s.supervisor with conversion := .idle } } := law.of_eq rfl rfl
    exact ended.of_pass (readingArrives_passChange _ reading) (readingArrives_heats reading)
  | softReset ready => exact law.of_softReset
  | sensorMode external config mode legal =>
    have changed : Tables (sensorChanged external { s with config := config }) := law.of_eq rfl rfl
    exact changed.of_pass (enterThermal_passChange _ .hot) (enterThermal_heats .hot)
  | command code t ready accepted =>
    have written : Tables { s with host := { s.host with command := code } } := law.of_eq rfl rfl
    exact (written.of_accepted accepted).of_eq rfl rfl

theorem Tables.of_unarbitrated (law : Tables s) (change : Unarbitrated s t) : Tables t := by
  cases change with
  | released straps => exact ⟨List.Pairwise.nil, fun r => nofun, List.Pairwise.nil⟩
  | logWait =>
    refine law.of_eq (serveWaiting_probeChange s).records ?_
    unfold serveWaiting
    split
    · rfl
    · split_ifs <;> rfl
  | nothing | time | asserted | held | discarded | window | posted | configured => exact law.of_eq rfl rfl

/-! ### The array -/

theorem Accepted.frame (accepted : Accepted s t) :
    t.array = s.array ∧ t.config = s.config ∧ t.deviceCount = s.deviceCount ∧ t.pending = s.pending ∧
      t.powerCycle = s.powerCycle := by
  cases accepted with
  | probeAbort k running =>
    have change := (abortContext_probeChange s .host k).job
    exact ⟨change.array, change.config, change.deviceCount, change.pending, change.powerCycle⟩
  | recordWrite o status =>
    obtain ⟨v, change, -, -, eq⟩ := writeRecord_jobChange (s := s) o status
    rw [eq]
    exact ⟨change.array, change.config, change.deviceCount, change.pending, change.powerCycle⟩
  | logPop e rest head =>
    have change := (serveWaiting_probeChange { s with probes := { s.probes with log := rest } }).job
    exact ⟨change.array, change.config, change.deviceCount, change.pending, change.powerCycle⟩
  | tempSupply reading =>
    have change := readingArrives_passChange s reading
    exact ⟨change.array, change.config, change.deviceCount, change.pending, change.powerCycle⟩
  | probeStart | retire | recordRead | logRead => exact ⟨rfl, rfl, rfl, rfl, rfl⟩

theorem hostArrayEffect_wf (wf : Memory.wf s.array) (target : Row) (kind : RequestKind) (column : Nat) (bytes : List Byte)
    (decay : Decay) : Memory.wf (hostArrayEffect target kind column bytes decay s).array := by
  cases kind with
  | read => exact applyDecay_wf wf target decay
  | write => exact writeBytes_wf wf target column bytes
  | fill => exact writeBytes_wf wf target column bytes

theorem copyArrayEffect_wf (wf : Memory.wf s.array) (source target : Row) (burst : Nat) (decay : Decay) :
    Memory.wf (copyArrayEffect source target burst decay s).array :=
  writeBytes_wf (s := applyDecay source decay s) (applyDecay_wf wf source decay) _ _ _

theorem wf_of_arbitrated (wf : Memory.wf s.array) (change : Arbitrated s u) : Memory.wf u.array := by
  cases change with
  | hostAccess decay target kind column length bytes pageOpen hit op =>
    rw [endAccess_frame]
    exact hostArrayEffect_wf wf target kind column bytes decay
  | failedHead =>
    rw [checkHead_frame]
    exact wf
  | popped c rest head =>
    rw [checkHead_frame]
    exact wf
  | posted q ready empty =>
    rw [checkHead_frame]
    exact wf
  | copyBurst decay source target burst op =>
    rw [(copyBurstResult_jobChange _).array]
    exact copyArrayEffect_wf wf source target burst decay
  | unwindEnd =>
    rw [(testUnwind_jobChange s).array]
    exact wf
  | patternBurst k row burst bytes op =>
    rw [(patternBurstResult_probeChange _ k).job.array]
    exact writeBytes_wf wf row _ bytes
  | checkBurst decay k row burst expected differing op =>
    rw [(checkBurstResult_jobChange _ k differing).array]
    exact applyDecay_wf wf row decay
  | sliceExpired room => exact (takeExpiry_passChange s).array ▸ wf
  | sensorTimeout => exact (testSensorTimeout_passChange s).array ▸ wf
  | heldExpiry => exact (releaseHeld_passChange s).array ▸ wf
  | visit c cursor =>
    obtain ⟨records, change⟩ := visitRow_passChange (s := s) c
    rw [change.array]
    exact wf
  | forcedClear =>
    rw [testForced_eq]
    exact wf
  | conversion reading =>
    rw [(readingArrives_passChange _ reading).array]
    exact wf
  | softReset ready =>
    rw [softResetEffects_array]
    exact wf
  | sensorMode external config mode legal =>
    rw [changeSensorMode_eq, (enterThermal_passChange _ .hot).array]
    exact wf
  | command code t ready accepted =>
    rw [setCommandStatus_array, accepted.frame.1]
    exact wf
  | nothing | pauseExpired | initCycle | initEnded | rowRefresh | rowClose | openRowExpired | stretchExpired => exact wf

theorem serveWaiting_array : (serveWaiting s).array = s.array :=
  (serveWaiting_probeChange s).job.array

theorem wf_of_unarbitrated (wf : Memory.wf s.array) (change : Unarbitrated s t) : Memory.wf t.array := by
  cases change with
  | released straps => exact ⟨List.Pairwise.nil, nofun⟩
  | logWait =>
    rw [serveWaiting_array]
    exact wf
  | nothing | time | asserted | held | discarded | window | posted | configured => exact wf

/-- Settles O5: every change goes through the tables' own operations, which keep the canonical form. -/
theorem stepKeepsTablesCanonical : Obligations.StepKeepsTablesCanonical := by
  intro s t law h
  rw [tablesCanonical_iff] at law ⊢
  refine step_keeps (premise := fun _ => True) (law := fun s => Memory.wf s.array ∧ Tables s)
    (fun _ _ ⟨wf, law⟩ => ⟨wf, law.of_eq rfl rfl⟩) (fun _ _ => id) ?_ ?_ ?_ trivial law h
  · exact fun s t _ ⟨wf, law⟩ change => ⟨wf_of_unarbitrated wf change, law.of_unarbitrated change⟩
  · exact fun s u _ ⟨wf, law⟩ _ change => ⟨wf_of_arbitrated wf change, law.of_arbitrated change⟩
  · exact fun s ⟨wf, law⟩ => ⟨(arbitrate_array s).symm ▸ wf, law.of_arbitrate⟩

end Sys2Proof.Machine
end

section
/-! PROOFS. What a change does to the scheduler: HIRQ# and the configuration stay lawful, and the pending slices stay the serials
from the cursor's to the current one. -/

namespace Sys2Proof.Machine

open Sys2Proof

variable {s t u : State}

/-! ### The scheduler at a change -/

/-- What a change before the arbiter's choice can do to the scheduler. -/
inductive SchedulerTurn (s u : State) : Prop
  | kept (due : List DueEntry) (cursor : Option ScanCursor) (forced refreshing : Bool)
      (cursors : cursor = s.scheduler.cursor ∨ cursor = s.scheduler.cursor.map (fun c => { c with paused := false }))
      (eq : u.scheduler = { s.scheduler with due := due, cursor := cursor, forced := forced, refreshing := refreshing })
  | started (eq : u.scheduler = (startSliceTimer s).scheduler)
  | expiry (room : s.scheduler.pendingSlices < 15) (eq : u = startSliceTimer (takeExpiry s))
  | released (eq : u = releaseHeld s)
  | visited (c : ScanCursor) (cursor : s.scheduler.cursor = some c) (eq : u = visitRow c s)

theorem SchedulerTurn.same (same : u.scheduler = s.scheduler) : SchedulerTurn s u :=
  .kept s.scheduler.due s.scheduler.cursor s.scheduler.forced s.scheduler.refreshing (.inl rfl) same

/-- A departure after a change of other blocks. -/
theorem SchedulerTurn.after (sheds : Sheds t u) (same : t.scheduler = s.scheduler) : SchedulerTurn s u :=
  .kept _ _ _ s.scheduler.refreshing (sheds.after same).cursor (sheds.after same).frame

theorem Accepted.sheds (accepted : Accepted s t) : Sheds s t := by
  cases accepted with
  | probeAbort k running => exact .of_scheduler_eq (abortContext_probeChange s .host k).scheduler
  | recordWrite o status => exact writeRecord_sheds s o status
  | logPop e rest head =>
    exact .of_scheduler_eq (serveWaiting_probeChange { s with probes := { s.probes with log := rest } }).scheduler
  | tempSupply reading => exact .of_scheduler_eq (readingArrives_keepsScheduler reading).1
  | probeStart | retire | recordRead | logRead => exact .of_scheduler_eq rfl

theorem arbitrated_scheduler (change : Arbitrated s u) : SchedulerTurn s u := by
  cases change with
  | nothing => exact .same rfl
  | pauseExpired powerup => exact .same rfl
  | initCycle row op => exact .same rfl
  | initEnded row op => exact .started rfl
  | rowRefresh row op => exact .kept _ _ _ false (.inl rfl) rfl
  | rowClose d op => exact .same rfl
  | hostAccess decay target kind column length bytes pageOpen hit op =>
    rw [hostArrayEffect_eq]
    exact .same (s := s) (endAccess_scheduler _ _)
  | failedHead => exact .same (checkHead_scheduler s)
  | popped c rest head => exact .same (s := s) (checkHead_scheduler _)
  | posted q ready empty => exact .same (s := s) (checkHead_scheduler _)
  | copyBurst decay source target burst op => exact .after (copyBurstResult_sheds _) rfl
  | unwindEnd => exact .same (testUnwind_scheduler s)
  | patternBurst k row burst bytes op => exact .same (s := s) (patternBurstResult_probeChange _ k).scheduler
  | checkBurst decay k row burst expected differing op => exact .after (checkBurstResult_sheds _ k differing) rfl
  | openRowExpired d runs => exact .same rfl
  | sliceExpired room => exact .expiry room rfl
  | sensorTimeout => exact .same testSensorTimeout_keepsScheduler.1
  | heldExpiry => exact .released rfl
  | visit c cursor => exact .visited c cursor rfl
  | forcedClear =>
    exact .kept _ _ _ _ (.inl rfl) (by rw [testForced_eq])
  | stretchExpired k stretch => exact .same rfl
  | conversion reading => exact .same (s := s) (readingArrives_keepsScheduler reading).1
  | softReset ready => exact .same (softResetEffects_scheduler s)
  | sensorMode external config mode legal => exact .same (s := s) (enterThermal_keepsScheduler .hot).1
  | command code t ready accepted =>
    exact .after (accepted.sheds.trans (.of_scheduler_eq rfl)) rfl

/-! ### The pending slices -/

/-- The pending slices are the consecutive serials from the cursor's to the current one (R62). -/
def slicesFollow (serial pending : Nat) : Option ScanCursor → Prop
  | none => pending = 0
  | some c => c.serial < 65536 ∧ 0 < pending ∧ (c.serial + pending - 1) % 65536 = serial ∧ c.row.val % 16 = c.serial % 16

/-- The law of the pending slices but for the HELD timer. -/
structure Slices (c : Scheduler) : Prop where
  serial : c.serial < 65536
  room : c.pendingSlices ≤ 15
  follow : slicesFollow c.serial c.pendingSlices c.cursor

theorem pendingLaw_iff : pendingLaw s ↔
    Slices s.scheduler ∧ (s.scheduler.sliceTimer = .expired → s.scheduler.pendingSlices = 15) := by
  unfold pendingLaw
  constructor
  · intro ⟨serial, room, held, follow⟩
    refine ⟨⟨serial, room, ?_⟩, held⟩
    cases cursor : s.scheduler.cursor <;> rw [cursor] at follow <;> exact follow
  · intro ⟨⟨serial, room, follow⟩, held⟩
    refine ⟨serial, room, held, ?_⟩
    cases cursor : s.scheduler.cursor <;> rw [cursor] at follow <;> exact follow

/-- Whether the scan is paused does not matter. -/
theorem slicesFollow_resumed {serial pending : Nat} {before after : Option ScanCursor}
    (cursors : after = before ∨ after = before.map (fun c => { c with paused := false }))
    (follow : slicesFollow serial pending before) : slicesFollow serial pending after := by
  obtain rfl | rfl := cursors
  · exact follow
  · cases before <;> exact follow

theorem slicesFollow_sliceStart {serial pass : Nat} (serial_lt : serial < 65536) :
    slicesFollow serial 1 (some (sliceStart serial pass)) := by
  refine ⟨serial_lt, Nat.one_pos, ?_, ?_⟩
  · show (serial + 1 - 1) % 65536 = serial
    omega
  · show (Fin.ofNat 1024 (serial % 16)).val % 16 = serial % 16
    rw [Fin.val_ofNat]
    omega

theorem Slices.takeExpiry (law : Slices s.scheduler) (room : s.scheduler.pendingSlices < 15) :
    Slices (takeExpiry s).scheduler := by
  rw [takeExpiry_scheduler]
  refine ⟨Nat.mod_lt _ (by decide), room, ?_⟩
  have follow := law.follow
  dsimp only
  split_ifs with empty
  · rw [empty]
    exact slicesFollow_sliceStart (Nat.mod_lt _ (by decide))
  · cases cursor : s.scheduler.cursor with
    | none => rw [cursor] at follow; exact absurd follow empty
    | some c =>
      rw [cursor] at follow
      obtain ⟨serial, some_, last, row⟩ := follow
      exact ⟨serial, Nat.succ_pos _, by omega, row⟩

theorem pendingLaw_startSliceTimer (law : Slices s.scheduler) : pendingLaw (startSliceTimer s) :=
  pendingLaw_iff.mpr ⟨⟨law.serial, law.room, law.follow⟩, nofun⟩

theorem pendingLaw_releaseHeld (law : Slices s.scheduler) : pendingLaw (releaseHeld s) := by
  obtain ⟨-, room, eq⟩ | ⟨full, eq⟩ := releaseHeld_cases (s := s) <;> rw [eq]
  · exact pendingLaw_startSliceTimer (law.takeExpiry room)
  · exact pendingLaw_iff.mpr ⟨law, fun held => Nat.le_antisymm law.room (full held)⟩

/-- The scheduler but for the pause of the scan, the due queue, FORCED and the refresh engine. -/
theorem pendingLaw_kept {due : List DueEntry} {cursor : Option ScanCursor} {forced refreshing : Bool}
    (cursors : cursor = s.scheduler.cursor ∨ cursor = s.scheduler.cursor.map (fun c => { c with paused := false }))
    (eq : u.scheduler = { s.scheduler with due := due, cursor := cursor, forced := forced, refreshing := refreshing })
    (law : pendingLaw s) : pendingLaw u := by
  obtain ⟨⟨serial, room, follow⟩, held⟩ := pendingLaw_iff.mp law
  rw [pendingLaw_iff, eq]
  exact ⟨⟨serial, room, slicesFollow_resumed cursors follow⟩, held⟩

/-- The cursor within its slice: another row or another device. -/
theorem pendingLaw_within {c d : ScanCursor} (cursor : s.scheduler.cursor = some c)
    (eq : u.scheduler = { s.scheduler with due := u.scheduler.due, cursor := some d })
    (serial : d.serial = c.serial) (row : d.row.val % 16 = c.serial % 16) (law : pendingLaw s) : pendingLaw u := by
  obtain ⟨⟨current, room, follow⟩, held⟩ := pendingLaw_iff.mp law
  rw [cursor] at follow
  obtain ⟨small, some_, last, -⟩ := follow
  rw [pendingLaw_iff, eq]
  exact ⟨⟨current, room, serial ▸ small, some_, serial ▸ last, serial ▸ row⟩, held⟩

theorem Slices.scanEnded {c : ScanCursor} (cursor : s.scheduler.cursor = some c) (law : Slices s.scheduler) :
    Slices (scanEnded c s).scheduler := by
  obtain ⟨current, room, follow⟩ := law
  rw [cursor] at follow
  obtain ⟨small, some_, last, row⟩ := follow
  refine ⟨current, (Nat.sub_le _ 1).trans room, ?_⟩
  show slicesFollow s.scheduler.serial (s.scheduler.pendingSlices - 1)
    (if 0 < s.scheduler.pendingSlices - 1 then some (nextSlice c) else none)
  split_ifs with more
  · refine ⟨Nat.mod_lt _ (by decide), more, ?_, ?_⟩
    · show ((c.serial + 1) % 65536 + (s.scheduler.pendingSlices - 1) - 1) % 65536 = s.scheduler.serial
      omega
    · show (Fin.ofNat 1024 ((c.serial + 1) % 65536 % 16)).val % 16 = (c.serial + 1) % 65536 % 16
      rw [Fin.val_ofNat]
      omega
  · exact Nat.eq_zero_of_not_pos more

theorem pendingLaw_testForced (law : pendingLaw s) : pendingLaw (testForced s) :=
  pendingLaw_kept (refreshing := s.scheduler.refreshing) (.inl rfl) (by rw [testForced_eq]) law

theorem pendingLaw_advanceScan {c : ScanCursor} (cursor : s.scheduler.cursor = some c) (law : pendingLaw s) :
    pendingLaw (advanceScan c s) := by
  have slices := (pendingLaw_iff.mp law).1
  have follow := slices.follow
  rw [cursor] at follow
  obtain ⟨-, -, -, row⟩ := follow
  obtain ⟨next, eq⟩ | ⟨-, -, eq⟩ | ⟨-, -, eq⟩ := advanceScan_cases (s := s) c <;> rw [eq]
  · refine pendingLaw_within cursor rfl rfl ?_ law
    show (Fin.ofNat 1024 (c.row.val + 16)).val % 16 = c.serial % 16
    rw [Fin.val_ofNat]
    omega
  · refine pendingLaw_within cursor rfl rfl ?_ law
    show (Fin.ofNat 1024 (c.serial % 16)).val % 16 = c.serial % 16
    rw [Fin.val_ofNat]
    omega
  · rw [endScan_eq]
    exact pendingLaw_testForced (pendingLaw_releaseHeld (slices.scanEnded cursor))

theorem pendingLaw_visitRow {c : ScanCursor} (cursor : s.scheduler.cursor = some c) (law : pendingLaw s) :
    pendingLaw (visitRow c s) := by
  have row := pendingLaw_iff.mp law
  obtain ⟨⟨-, -, follow⟩, -⟩ := row
  rw [cursor] at follow
  obtain ⟨-, -, -, row⟩ := follow
  obtain ⟨_, _, aged⟩ := ageDemotion_eq (s := s) c.visited
  obtain ⟨-, -, -, eq⟩ | ⟨-, -, -, eq⟩ | ⟨-, eq⟩ := visitRow_cases (s := s) c <;> rw [eq, aged]
  · exact pendingLaw_within cursor rfl rfl row law
  · have appended : pendingLaw (appendDue c.visited c.serial { s with host := _, records := _ }) :=
      pendingLaw_kept (s := s) (.inl rfl) (appendDue_scheduler _ _ _) law
    exact pendingLaw_advanceScan cursor appended
  · exact pendingLaw_advanceScan cursor law

theorem Sheds.pendingLaw (sheds : Sheds s t) (law : pendingLaw s) : pendingLaw t :=
  pendingLaw_kept sheds.cursor sheds.frame law

theorem pendingLaw_arbitrate (law : pendingLaw s) : pendingLaw (arbitrate s) := by
  obtain ⟨eq, -⟩ | ⟨claim, op, -, -, granted, eq⟩ := arbitrate_grants (s := s) <;> rw [eq]
  · exact law
  · refine (grantClaim_departure granted).sheds.pendingLaw ?_
    cases claim with
    | refresh urgent =>
      obtain ⟨e, rest, head, -⟩ := refresh_descriptor granted
      rw [claimantEffects, takeRefreshHead_eq head]
      refine (departDue_departure e.row).sheds.pendingLaw
        (s := { s with scheduler := { s.scheduler with refreshing := true } }) ?_
      exact law
    | request =>
      obtain ⟨q, rest, head, -⟩ := request_descriptor granted
      rw [claimantEffects, fillAccessRecord_eq head]
      exact law
    | close d => exact law
    | copy => exact law
    | probe k => exact law
    | init => exact law

theorem SchedulerTurn.pendingLaw (turn : SchedulerTurn s u) (law : pendingLaw s) : pendingLaw u := by
  have slices := (pendingLaw_iff.mp law).1
  cases turn with
  | kept due cursor forced refreshing cursors eq => exact pendingLaw_kept cursors eq law
  | started eq =>
    have started := pendingLaw_startSliceTimer slices
    rw [pendingLaw_iff, eq]
    exact pendingLaw_iff.mp started
  | expiry room eq => exact eq ▸ pendingLaw_startSliceTimer (slices.takeExpiry room)
  | released eq => exact eq ▸ pendingLaw_releaseHeld slices
  | visited c cursor eq => exact eq ▸ pendingLaw_visitRow cursor law

theorem pendingLaw_unarbitrated (law : pendingLaw s) (change : Unarbitrated s t) : pendingLaw t := by
  obtain ⟨slices, held⟩ := pendingLaw_iff.mp law
  cases change with
  | nothing => exact law
  | time =>
    refine pendingLaw_iff.mpr ⟨⟨slices.serial, slices.room, slices.follow⟩, fun expired => held ?_⟩
    exact (Timer.tick_kind s.scheduler.sliceTimer).2.1.mp expired
  | asserted => exact law
  | released straps =>
    have slices : Slices Scheduler.atReset := ⟨by decide, by decide, rfl⟩
    exact pendingLaw_iff.mpr ⟨slices, nofun⟩
  | logWait => exact (serveWaiting_probeChange s).sheds.pendingLaw law
  | held full =>
    exact pendingLaw_iff.mpr ⟨⟨slices.serial, slices.room, slices.follow⟩, fun _ => Nat.le_antisymm slices.room full⟩
  | discarded => exact law
  | window host requests interrupt queue access completions staging => exact law
  | posted q ready room behind => exact law
  | configured config mode legal => exact law

/-- Settles O9. -/
theorem stepKeepsPendingSliceLaw : Obligations.StepKeepsPendingSliceLaw := by
  intro s t law h
  exact step_keeps (premise := fun _ => True) (fun _ _ => id) (fun _ _ => id) (fun _ _ _ => pendingLaw_unarbitrated)
    (fun _ _ _ law _ change => (arbitrated_scheduler change).pendingLaw law) (fun _ => pendingLaw_arbitrate) trivial law h

end Sys2Proof.Machine
end

section
/-! PROOFS. HIRQ# follows flags and masks, and the configuration stays in range. -/

namespace Sys2Proof.Machine

open Sys2Proof

variable {s t u : State}

/-! ### HIRQ# -/

theorem interruptLaw_congr (host : t.host = s.host) (law : interruptLaw s) : interruptLaw t := by
  unfold interruptLaw
  rw [host]
  exact law

/-- A change after one that leaves the host interface alone. -/
theorem interruptLaw_after {mask : BitVec 10} (raises : Raises mask t u) (host : t.host = s.host) (law : interruptLaw s) :
    interruptLaw u :=
  raises.interruptLaw (interruptLaw_congr host law)

theorem interruptLaw_softReset : interruptLaw (softResetEffects s) := by
  have cleared : interruptLaw { softResetAborts s with host := clearHost (softResetAborts s).host } := by
    show false = true ↔ (0 : BitVec 10) &&& 0 ≠ 0
    decide
  rw [softResetEffects_eq]
  exact (testUnwind_raises _).interruptLaw cleared

theorem interruptLaw_accepted (law : interruptLaw s) (accepted : Accepted s t) : interruptLaw t := by
  cases accepted with
  | probeAbort k running => exact (abortContext_raises _ .host k).interruptLaw law
  | recordWrite o status =>
    show interruptLaw (if status = .retired then _ else _)
    split_ifs
    · exact interruptLaw_congr (retireRecord_host _ _ _) law
    · exact law
  | logPop e rest head =>
    exact interruptLaw_after (s := s) (serveWaiting_raises { s with probes := { s.probes with log := rest } }) rfl law
  | tempSupply reading => exact (readingArrives_raises _ reading).interruptLaw law
  | probeStart | retire | recordRead | logRead => exact law

theorem interruptLaw_arbitrated (law : interruptLaw s) (change : Arbitrated s u) : interruptLaw u := by
  cases change with
  | nothing => exact law
  | pauseExpired powerup => exact law
  | initCycle row op => exact law
  | initEnded row op => exact interruptLaw_evaluate _
  | rowRefresh row op => exact law
  | rowClose d op => exact law
  | hostAccess decay target kind column length bytes pageOpen hit op =>
    rw [hostArrayEffect_eq]
    exact interruptLaw_after (endAccess_raises _ _) rfl law
  | failedHead => exact (checkHead_raises _).interruptLaw law
  | popped c rest head => exact interruptLaw_after (checkHead_raises _) rfl law
  | posted q ready empty => exact interruptLaw_after (checkHead_raises _) rfl law
  | copyBurst decay source target burst op => exact interruptLaw_after (copyBurstResult_raises _) rfl law
  | unwindEnd => exact (testUnwind_raises _).interruptLaw law
  | patternBurst k row burst bytes op => exact interruptLaw_congr (s := s) (patternBurstResult_host _ k) law
  | checkBurst decay k row burst expected differing op => exact interruptLaw_after (checkBurstResult_raises _ k differing) rfl law
  | openRowExpired d runs => exact law
  | sliceExpired room => exact interruptLaw_congr rfl ((takeExpiry_raises _).interruptLaw law)
  | sensorTimeout => exact (testSensorTimeout_raises _).interruptLaw law
  | heldExpiry => exact (releaseHeld_raises _).interruptLaw law
  | visit c cursor => exact (visitRow_raises _ c).interruptLaw law
  | forcedClear => exact interruptLaw_congr (testForced_host _) law
  | stretchExpired k stretch => exact law
  | conversion reading => exact interruptLaw_after (readingArrives_raises _ reading) rfl law
  | softReset ready => exact interruptLaw_softReset
  | sensorMode external config mode legal => exact interruptLaw_after (enterThermal_raises _ .hot) rfl law
  | command code t ready accepted =>
    have kept := interruptLaw_accepted (s := { s with host := { s.host with command := code } }) law accepted
    exact kept

theorem interruptLaw_unarbitrated (law : interruptLaw s) (change : Unarbitrated s t) : interruptLaw t := by
  cases change with
  | nothing => exact law
  | time => exact law
  | asserted => exact law
  | released straps =>
    show false = true ↔ (0 : BitVec 10) &&& 0 ≠ 0
    decide
  | logWait => exact (serveWaiting_raises _).interruptLaw law
  | held full => exact law
  | discarded => exact law
  | window host requests interrupt queue access completions staging => exact interrupt law
  | posted q ready room behind => exact law
  | configured config mode legal => exact law

/-! ### The configuration -/

theorem takeExpiry_tbase : (takeExpiry s).scheduler.tbase = s.scheduler.tbase ∨
    (takeExpiry s).scheduler.tbase = s.config.tbaseWritten := by
  rw [takeExpiry_scheduler]
  exact expiryPass_tbase

theorem releaseHeld_tbase : (releaseHeld s).scheduler.tbase = s.scheduler.tbase ∨
    (releaseHeld s).scheduler.tbase = s.config.tbaseWritten := by
  obtain ⟨-, -, eq⟩ | ⟨-, eq⟩ := releaseHeld_cases (s := s) <;> rw [eq]
  · exact takeExpiry_tbase
  · exact .inl rfl

theorem advanceScan_tbase (c : ScanCursor) : (advanceScan c s).scheduler.tbase = s.scheduler.tbase ∨
    (advanceScan c s).scheduler.tbase = s.config.tbaseWritten := by
  obtain ⟨-, eq⟩ | ⟨-, -, eq⟩ | ⟨-, -, eq⟩ := advanceScan_cases (s := s) c <;> rw [eq]
  · exact .inl rfl
  · exact .inl rfl
  · rw [endScan_eq, testForced_eq]
    exact releaseHeld_tbase

theorem visitRow_tbase (c : ScanCursor) : (visitRow c s).scheduler.tbase = s.scheduler.tbase ∨
    (visitRow c s).scheduler.tbase = s.config.tbaseWritten := by
  obtain ⟨_, _, aged⟩ := ageDemotion_eq (s := s) c.visited
  obtain ⟨-, -, -, eq⟩ | ⟨-, -, -, eq⟩ | ⟨-, eq⟩ := visitRow_cases (s := s) c <;> rw [eq, aged]
  · exact .inl rfl
  · exact advanceScan_tbase c
  · exact advanceScan_tbase c

/-- The T_base in force changes to the one written alone (R59). -/
theorem SchedulerTurn.tbase (turn : SchedulerTurn s u) :
    u.scheduler.tbase = s.scheduler.tbase ∨ u.scheduler.tbase = s.config.tbaseWritten := by
  cases turn with
  | kept due cursor forced refreshing cursors eq => exact .inl (by rw [eq])
  | started eq => exact .inl (by rw [eq]; rfl)
  | expiry room eq => exact eq ▸ takeExpiry_tbase
  | released eq => exact eq ▸ releaseHeld_tbase
  | visited c cursor eq => exact eq ▸ visitRow_tbase c

/-- The parts that no change before the arbiter's choice touches: the device count and the commands that wait behind. -/
structure SameFrame (s u : State) : Prop where
  deviceCount : u.deviceCount = s.deviceCount
  pending : u.pending = s.pending

theorem Accepted.sameFrame (accepted : Accepted s t) : SameFrame s t := by
  obtain ⟨-, -, devices, pending, -⟩ := accepted.frame
  exact ⟨devices, pending⟩

theorem JobChange.sameFrame (change : JobChange s t) : SameFrame s t := ⟨change.deviceCount, change.pending⟩

theorem PassChange.sameFrame (change : PassChange s t) : SameFrame s t := ⟨change.deviceCount, change.pending⟩

theorem checkHead_sameFrame : SameFrame s (checkHead s) := by
  rw [checkHead_frame]
  exact ⟨rfl, rfl⟩

theorem visitRow_sameFrame (c : ScanCursor) : SameFrame s (visitRow c s) := by
  obtain ⟨records, change⟩ := visitRow_passChange s c
  exact ⟨change.deviceCount, change.pending⟩

theorem visitRow_config (c : ScanCursor) : (visitRow c s).config = s.config := by
  obtain ⟨records, change⟩ := visitRow_passChange s c
  exact change.config

theorem arbitrated_sameFrame (change : Arbitrated s u) : SameFrame s u := by
  cases change with
  | hostAccess decay target kind column length bytes pageOpen hit op =>
    rw [endAccess_frame, hostArrayEffect_eq]
    exact ⟨rfl, rfl⟩
  | failedHead => exact checkHead_sameFrame
  | popped c rest head =>
    rw [checkHead_frame]
    exact ⟨rfl, rfl⟩
  | posted q ready empty =>
    rw [checkHead_frame]
    exact ⟨rfl, rfl⟩
  | copyBurst decay source target burst op =>
    have change := copyBurstResult_jobChange (closeDevice target.device (closeDevice source.device
      (freePort (copyArrayEffect source target burst decay s))))
    exact ⟨change.deviceCount, change.pending⟩
  | unwindEnd => exact (testUnwind_jobChange s).sameFrame
  | patternBurst k row burst bytes op =>
    have change := (patternBurstResult_probeChange (closeDevice row.device
      (freePort (writeBytes row (Config.burstColumns * burst) bytes s))) k).job
    exact ⟨change.deviceCount, change.pending⟩
  | checkBurst decay k row burst expected differing op =>
    have change := checkBurstResult_jobChange (closeDevice row.device (freePort (applyDecay row decay s))) k differing
    exact ⟨change.deviceCount, change.pending⟩
  | sliceExpired room =>
    have change := takeExpiry_passChange s
    exact ⟨change.deviceCount, change.pending⟩
  | sensorTimeout => exact (testSensorTimeout_passChange s).sameFrame
  | heldExpiry => exact (releaseHeld_passChange s).sameFrame
  | visit c cursor => exact visitRow_sameFrame c
  | forcedClear =>
    rw [testForced_eq]
    exact ⟨rfl, rfl⟩
  | conversion reading =>
    have change := readingArrives_passChange { s with supervisor := { s.supervisor with conversion := .idle } } reading
    exact ⟨change.deviceCount, change.pending⟩
  | softReset ready => exact ⟨softResetEffects_deviceCount s, softResetEffects_pending s⟩
  | sensorMode external config mode legal =>
    have change := enterThermal_passChange (sensorChanged external { s with config := config }) .hot
    exact ⟨change.deviceCount, change.pending⟩
  | command code t ready accepted =>
    have same := accepted.sameFrame
    exact ⟨same.deviceCount, same.pending⟩
  | nothing | pauseExpired | initCycle | initEnded | rowRefresh | rowClose | openRowExpired | stretchExpired =>
    exact ⟨rfl, rfl⟩

/-- The configuration changes with the sensor mode alone, and then to a lawful one. -/
theorem arbitrated_config (change : Arbitrated s u) :
    u.config = s.config ∨ ∃ external config, u = changeSensorMode external { s with config := config } ∧
      (configurationLaw s → configurationLaw { s with config := { config with external := external } }) := by
  cases change with
  | hostAccess decay target kind column length bytes pageOpen hit op =>
    rw [endAccess_frame, hostArrayEffect_eq]
    exact .inl rfl
  | failedHead =>
    rw [checkHead_frame]
    exact .inl rfl
  | popped c rest head =>
    rw [checkHead_frame]
    exact .inl rfl
  | posted q ready empty =>
    rw [checkHead_frame]
    exact .inl rfl
  | copyBurst decay source target burst op =>
    exact .inl (copyBurstResult_jobChange (closeDevice target.device (closeDevice source.device
      (freePort (copyArrayEffect source target burst decay s))))).config
  | unwindEnd => exact .inl (testUnwind_jobChange s).config
  | patternBurst k row burst bytes op =>
    exact .inl (patternBurstResult_probeChange (closeDevice row.device
      (freePort (writeBytes row (Config.burstColumns * burst) bytes s))) k).job.config
  | checkBurst decay k row burst expected differing op =>
    exact .inl (checkBurstResult_jobChange (closeDevice row.device (freePort (applyDecay row decay s))) k differing).config
  | sliceExpired room => exact .inl (takeExpiry_passChange s).config
  | sensorTimeout => exact .inl (testSensorTimeout_passChange s).config
  | heldExpiry => exact .inl (releaseHeld_passChange s).config
  | visit c cursor => exact .inl (visitRow_config c)
  | forcedClear =>
    rw [testForced_eq]
    exact .inl rfl
  | conversion reading =>
    exact .inl (readingArrives_passChange { s with supervisor := { s.supervisor with conversion := .idle } } reading).config
  | softReset ready => exact .inl (softResetEffects_config s)
  | sensorMode external config mode legal => exact .inr ⟨external, config, rfl, legal⟩
  | command code t ready accepted =>
    obtain ⟨-, config, -⟩ := accepted.frame
    exact .inl config
  | nothing | pauseExpired | initCycle | initEnded | rowRefresh | rowClose | openRowExpired | stretchExpired =>
    exact .inl rfl

theorem configurationLaw_of (config : t.config = s.config)
    (tbase : t.scheduler.tbase = s.scheduler.tbase ∨ t.scheduler.tbase = s.config.tbaseWritten) (law : configurationLaw s) :
    configurationLaw t := by
  obtain ⟨written, inForce, others⟩ := law
  unfold configurationLaw
  rw [config]
  obtain same | taken := tbase
  · rw [same]; exact ⟨written, inForce, others⟩
  · rw [taken]; exact ⟨written, written, others⟩

theorem configurationLaw_arbitrated (law : configurationLaw s) (change : Arbitrated s u) : configurationLaw u := by
  obtain same | ⟨external, config, rfl, legal⟩ := arbitrated_config change
  · exact configurationLaw_of same (arbitrated_scheduler change).tbase law
  · rw [changeSensorMode_eq]
    have changed := enterThermal_passChange (sensorChanged external { s with config := config }) .hot
    exact configurationLaw_of changed.config
      (.inl (congrArg Scheduler.tbase (enterThermal_keepsScheduler (s := sensorChanged external { s with config := config }) .hot).1))
      (legal law)

theorem configurationLaw_unarbitrated (law : configurationLaw s) (change : Unarbitrated s t) : configurationLaw t := by
  cases change with
  | released straps =>
    have reset : configurationLaw State.reset := by unfold configurationLaw; decide
    exact reset
  | logWait =>
    exact configurationLaw_of (serveWaiting_probeChange s).job.config
      (.inl (congrArg Scheduler.tbase (serveWaiting_probeChange s).scheduler)) law
  | configured config mode legal => exact legal law
  | nothing | time | asserted | held | discarded | window | posted => exact law

theorem arbitrate_tbase : (arbitrate s).scheduler.tbase = s.scheduler.tbase := by
  obtain ⟨eq, -⟩ | ⟨claim, op, -, -, granted, eq⟩ := arbitrate_grants (s := s) <;> rw [eq]
  rw [(grantClaim_departure granted).sheds.frame]
  cases claim with
  | refresh urgent =>
    obtain ⟨e, rest, head, -⟩ := refresh_descriptor granted
    rw [claimantEffects, takeRefreshHead_eq head]
    have departs := (departDue_departure (s := { s with scheduler := { s.scheduler with refreshing := true } }) e.row).sheds
    rw [departs.frame]
  | request =>
    obtain ⟨q, rest, head, -⟩ := request_descriptor granted
    rw [claimantEffects, fillAccessRecord_eq head]
  | close | copy | probe | init => rfl

theorem configurationLaw_arbitrate (law : configurationLaw s) : configurationLaw (arbitrate s) :=
  configurationLaw_of (arbitrate_config s) (.inl arbitrate_tbase) law

/-- Settles O6: each law outlasts every change and the arbiter's choice. -/
theorem stepKeepsInterruptAndConfigurationLaws : Obligations.StepKeepsInterruptAndConfigurationLaws := by
  intro s t interrupt configuration h
  constructor
  · exact step_keeps (premise := fun _ => True) (fun _ _ => id) (fun _ _ => id) (fun _ _ _ => interruptLaw_unarbitrated)
      (fun _ _ _ law _ => interruptLaw_arbitrated law) (fun _ => interruptLaw_congr (arbitrate_host _)) trivial interrupt h
  · exact step_keeps (premise := fun _ => True) (fun _ _ => id) (fun _ _ => id)
      (fun _ _ _ => configurationLaw_unarbitrated) (fun _ _ _ law _ => configurationLaw_arbitrated law)
      (fun _ => configurationLaw_arbitrate) trivial configuration h

end Sys2Proof.Machine
end

section
/-! PROOFS. The machine as a whole: the front of the queue, the idle step, that every command answers, and what no other command
changes. -/

namespace Sys2Proof.Machine

open Sys2Proof

variable {s t u : State}

/-- Settles O1. -/
theorem stepRunsFrontCommand : Obligations.StepRunsFrontCommand := fun _ _ _ => rfl

/-! ### The idle step -/

theorem Timer.tick_running {length elapsed : Nat} (within : elapsed ≤ length) :
    Timer.tick (.running length elapsed) = .running length (min length (elapsed + 1)) := by
  show Timer.running length (if elapsed < length then elapsed + 1 else elapsed) = _
  split_ifs
  · rw [min_eq_right (by omega)]
  · rw [min_eq_left (by omega)]
    congr
    omega

theorem step_of_empty (empty : s.pending = []) : step s = .next (idle s) := by
  unfold step
  split
  · rfl
  · simp_all

/-- Settles O2. -/
theorem idleStepOnlyAdvancesTimers : Obligations.IdleStepOnlyAdvancesTimers := by
  refine ⟨fun _ _ => Timer.tick_running, rfl, rfl, fun s empty => ⟨fun low => ?_, fun run => ?_⟩⟩
  · rw [step_of_empty empty, idle, whenRunning, if_neg (by simp [low])]
  · refine ⟨tickTimers s, ?_, rfl, fun d => deviceState_tickTimers d, fun k => contextOf_tickTimers k⟩
    rw [step_of_empty empty, idle, whenRunning, if_pos run]

/-! ### Every command answers -/

theorem unarbitrated_pending (change : Unarbitrated s t) : t.pending = s.pending := by
  cases change with
  | logWait => exact (serveWaiting_probeChange s).job.pending
  | nothing | time | asserted | released | held | discarded | window | posted | configured => rfl

theorem Answers.pending (answer : Answers s t) : t.pending = s.pending := by
  obtain change | ⟨-, u, change, rfl⟩ := answer
  · exact unarbitrated_pending change
  · rw [arbitrate_pending]
    exact (arbitrated_sameFrame change).pending

/-- Every command answers with a next state. -/
theorem exec_next (c : Instr) (s : State) : ∃ t, exec c s = .next t := by
  cases c <;> exact ⟨_, rfl⟩

/-- Settles O3. -/
theorem everyCommandAnswersNext : Obligations.EveryCommandAnswersNext := by
  intro c s
  obtain ⟨t, h⟩ := exec_next c s
  exact ⟨t, h, (exec_answers h).pending⟩

/-! ### What a command leaves unchanged -/

/-- The array's bytes and the device count stand. -/
structure KeepsArray (s t : State) : Prop where
  deviceCount : t.deviceCount = s.deviceCount
  array : t.array = s.array
  powerCycle : t.powerCycle = s.powerCycle

/-- The device count and the configuration stand. -/
structure KeepsConfig (s t : State) : Prop where
  deviceCount : t.deviceCount = s.deviceCount
  config : t.config = s.config

/-- The array, the device count and the configuration stand. -/
def Unmoved (s t : State) : Prop := KeepsArray s t ∧ KeepsConfig s t

theorem Unmoved.of_eq (deviceCount : t.deviceCount = s.deviceCount) (array : t.array = s.array)
    (powerCycle : t.powerCycle = s.powerCycle) (config : t.config = s.config) : Unmoved s t :=
  ⟨⟨deviceCount, array, powerCycle⟩, ⟨deviceCount, config⟩⟩

theorem Unmoved.refl : Unmoved s s := .of_eq rfl rfl rfl rfl

theorem KeepsArray.trans (first : KeepsArray s t) (second : KeepsArray t u) : KeepsArray s u :=
  ⟨second.deviceCount.trans first.deviceCount, second.array.trans first.array, second.powerCycle.trans first.powerCycle⟩

theorem KeepsConfig.trans (first : KeepsConfig s t) (second : KeepsConfig t u) : KeepsConfig s u :=
  ⟨second.deviceCount.trans first.deviceCount, second.config.trans first.config⟩

theorem Unmoved.trans (first : Unmoved s t) (second : Unmoved t u) : Unmoved s u :=
  ⟨first.1.trans second.1, first.2.trans second.2⟩

theorem JobChange.unmoved (h : JobChange s t) : Unmoved s t := .of_eq h.deviceCount h.array h.powerCycle h.config

theorem PassChange.unmoved (h : PassChange s t) : Unmoved s t := .of_eq h.deviceCount h.array h.powerCycle h.config

theorem Accepted.unmoved (accepted : Accepted s t) : Unmoved s t := by
  obtain ⟨array, config, devices, -, cycle⟩ := accepted.frame
  exact .of_eq devices array cycle config

theorem arbitrate_unmoved : Unmoved s (arbitrate s) :=
  .of_eq (arbitrate_deviceCount s) (arbitrate_array s) (arbitrate_powerCycle s) (arbitrate_config s)

/-- A change that the arbiter's choice follows. -/
theorem Unmoved.arbitrated (h : Unmoved s t) : Unmoved s (arbitrate t) := h.trans arbitrate_unmoved

theorem checkHead_unmoved : Unmoved s (checkHead s) := by
  rw [checkHead_frame]
  exact .of_eq rfl rfl rfl rfl

theorem visitRow_unmoved (c : ScanCursor) : Unmoved s (visitRow c s) := by
  obtain ⟨records, change⟩ := visitRow_passChange s c
  exact .of_eq change.deviceCount change.array change.powerCycle change.config

theorem recordHostError_unmoved (code : HostError) : Unmoved s (recordHostError code s) := .of_eq rfl rfl rfl rfl

/-! ### The commands on the port and the timers -/

theorem pauseExpired_unmoved : Unmoved s (pauseExpired s) := by
  unfold pauseExpired
  split
  · exact Unmoved.arbitrated (.of_eq rfl rfl rfl rfl)
  all_goals exact .refl

theorem initCycleDone_unmoved : Unmoved s (initCycleDone s) := by
  unfold initCycleDone
  split
  · dsimp only
    split_ifs <;> exact Unmoved.arbitrated (.of_eq rfl rfl rfl rfl)
  all_goals exact .refl

theorem rowRefreshDone_unmoved : Unmoved s (rowRefreshDone s) := by
  unfold rowRefreshDone
  split
  · exact Unmoved.arbitrated (.of_eq rfl rfl rfl rfl)
  all_goals exact .refl

theorem rowCloseDone_unmoved : Unmoved s (rowCloseDone s) := by
  unfold rowCloseDone
  split
  · exact Unmoved.arbitrated (.of_eq rfl rfl rfl rfl)
  all_goals exact .refl

theorem openRowExpired_unmoved (d : DeviceId) : Unmoved s (openRowExpired d s) := by
  unfold openRowExpired
  split_ifs
  · exact Unmoved.arbitrated (.of_eq rfl rfl rfl rfl)
  · exact .refl

theorem sliceExpired_unmoved : Unmoved s (sliceExpired s) := by
  unfold sliceExpired
  split_ifs
  · exact Unmoved.arbitrated ((takeExpiry_passChange s).unmoved.trans (.of_eq rfl rfl rfl rfl))
  · exact .of_eq rfl rfl rfl rfl
  · exact .refl

theorem scan_unmoved : Unmoved s (scan s) := by
  unfold scan
  split
  · exact .refl
  · split_ifs
    · exact .refl
    · exact (visitRow_unmoved _).arbitrated

theorem stretchExpired_unmoved (k : ContextId) : Unmoved s (stretchExpired k s) := by
  unfold stretchExpired
  dsimp only
  split
  · split_ifs
    · exact Unmoved.arbitrated (.of_eq rfl rfl rfl rfl)
    · exact .refl
  all_goals exact .refl

theorem conversionDone_unmoved (measured : Int) : Unmoved s (conversionDone measured s) := by
  unfold conversionDone
  split
  · exact .refl
  · dsimp only
    split_ifs
    · exact .of_eq rfl rfl rfl rfl
    · have idle : Unmoved s { s with supervisor := { s.supervisor with conversion := .idle } } := .of_eq rfl rfl rfl rfl
      exact (idle.trans (readingArrives_passChange _ _).unmoved).arbitrated

/-! ### The completions that store bytes -/

theorem hostAccessDone_keepsConfig (decay : Decay) : KeepsConfig s (hostAccessDone decay s) := by
  unfold hostAccessDone
  split
  · refine KeepsConfig.trans ?_ arbitrate_unmoved.2
    rw [endAccess_frame, hostArrayEffect_eq]
    exact ⟨rfl, rfl⟩
  all_goals exact ⟨rfl, rfl⟩

theorem copyBurstDone_keepsConfig (decay : Decay) : KeepsConfig s (copyBurstDone decay s) := by
  unfold copyBurstDone
  split
  · rename_i source target burst op
    have moved : KeepsConfig s (closeDevice target.device (closeDevice source.device
        (freePort (copyArrayEffect source target burst decay s)))) := ⟨rfl, rfl⟩
    exact (moved.trans (copyBurstResult_jobChange _).unmoved.2).trans arbitrate_unmoved.2
  all_goals exact ⟨rfl, rfl⟩

theorem patternBurstDone_keepsConfig : KeepsConfig s (patternBurstDone s) := by
  unfold patternBurstDone
  split
  · rename_i k row burst bytes op
    have stored : KeepsConfig s (closeDevice row.device (freePort
        (writeBytes row (Config.burstColumns * burst) bytes s))) := ⟨rfl, rfl⟩
    exact (stored.trans (patternBurstResult_probeChange _ _).job.unmoved.2).trans arbitrate_unmoved.2
  all_goals exact ⟨rfl, rfl⟩

theorem checkBurstDone_keepsConfig (decay : Decay) : KeepsConfig s (checkBurstDone decay s) := by
  unfold checkBurstDone
  split
  · rename_i k row burst expected op
    dsimp only
    have read : KeepsConfig s (closeDevice row.device (freePort (applyDecay row (decayMet burst decay) s))) := ⟨rfl, rfl⟩
    exact (read.trans (checkBurstResult_jobChange _ _ _).unmoved.2).trans arbitrate_unmoved.2
  all_goals exact ⟨rfl, rfl⟩

/-! ### The register window and the command unit -/

theorem stage_unmoved (value : Word) : Unmoved s (stage value s) := by
  unfold stage
  split_ifs <;> exact .of_eq rfl rfl rfl rfl

theorem acceptPost_unmoved (q : Request) : Unmoved s (acceptPost q s) := .of_eq rfl rfl rfl rfl

theorem post_unmoved : Unmoved s (post s) := by
  unfold post
  split
  · exact recordHostError_unmoved _
  · split
    · exact recordHostError_unmoved _
    · split
      · exact recordHostError_unmoved _
      · dsimp only
        split
        · exact recordHostError_unmoved _
        · split
          · exact ((acceptPost_unmoved _).trans checkHead_unmoved).arbitrated
          · exact acceptPost_unmoved _

theorem popCompletion_unmoved : Unmoved s (popCompletion s) := by
  unfold popCompletion
  split
  · exact recordHostError_unmoved _
  · rename_i c rest head
    have popped : Unmoved s { s with requests := { s.requests with completions := rest, cursor := 0 } } :=
      .of_eq rfl rfl rfl rfl
    exact (popped.trans checkHead_unmoved).arbitrated

theorem writeControl_unmoved (value : Word) : Unmoved s (writeControl value s) := by
  unfold writeControl
  split_ifs
  · exact Unmoved.arbitrated (.of_eq (softResetEffects_deviceCount s) (softResetEffects_array s)
      (softResetEffects_powerCycle s) (softResetEffects_config s))
  · exact .refl

theorem takeCommand_unmoved (code : Word) {body : State → Verdict}
    (accepted : ∀ u v, body u = .accepted v → Accepted u v) : Unmoved s (takeCommand code body s) := by
  obtain ⟨-, h⟩ | ⟨-, refusal, -, h⟩ | ⟨ready, u, verdict, h⟩ := takeCommand_cases s code body <;> rw [h]
  · exact .of_eq rfl rfl rfl rfl
  · exact .of_eq rfl rfl rfl rfl
  · have written : Unmoved s { s with host := { s.host with command := code } } := .of_eq rfl rfl rfl rfl
    have reported : Unmoved u (setCommandStatus .accepted u) := .of_eq rfl rfl rfl rfl
    exact ((written.trans (accepted _ _ verdict).unmoved).trans reported).arbitrated

theorem writeMode_keepsArray (value : Word) : KeepsArray s (writeMode value s) := by
  unfold writeMode
  split_ifs
  · exact (recordHostError_unmoved _).1
  · exact ⟨rfl, rfl, rfl⟩
  · have written : KeepsArray s (sensorChanged (value.getLsbD 8) { s with
        config := { s.config with hysteresis := bits value 0 4, autoRetire := value.getLsbD 12 } }) := ⟨rfl, rfl, rfl⟩
    exact (written.trans (enterThermal_passChange _ .hot).unmoved.1).trans arbitrate_unmoved.1

/-- A write that holds its value in the configuration, or records BAD_CONFIG. -/
theorem configWrite_keepsArray {legal : Prop} [Decidable legal] (config : Configuration) :
    KeepsArray s (if legal then { s with config := config } else recordHostError .badConfig s) := by
  split_ifs
  · exact ⟨rfl, rfl, rfl⟩
  · exact (recordHostError_unmoved _).1

theorem storeRegister_unmoved (address : BitVec 6) (value : Word) : Unmoved s (storeRegister address value s) :=
  .of_eq rfl rfl rfl rfl

theorem writeRegister_keepsArray (address : BitVec 6) (value : Word) : KeepsArray s (writeRegister address value s) := by
  unfold writeRegister
  split
  · exact ⟨rfl, rfl, rfl⟩
  · exact ⟨rfl, rfl, rfl⟩
  · exact (writeControl_unmoved value).1
  · exact configWrite_keepsArray _
  · exact configWrite_keepsArray _
  · exact configWrite_keepsArray _
  · exact configWrite_keepsArray _
  · exact configWrite_keepsArray _
  · exact configWrite_keepsArray _
  · exact writeMode_keepsArray value
  · exact post_unmoved.1
  · exact (stage_unmoved value).1
  · exact popCompletion_unmoved.1
  · exact (takeCommand_unmoved value fun _ _ => commandBody_accepted value).1
  · exact (storeRegister_unmoved address value).1

/-! ### The claim -/

/-- The commands whose completion moves bytes of the array. -/
def movesBytes : Instr → Bool
  | .hostAccessCompletion _ | .copyBurstCompletion _ | .patternBurstCompletion | .checkBurstCompletion _ => true
  | _ => false

/-- The commands that may write a configuration register. -/
def writesConfiguration : Instr → Bool
  | .cfgTbaseWrite _ | .cfgPageWrite _ | .cfgEpochWrite _ | .cfgAgeWrite _ | .cfgWarmWrite _ | .cfgHotWrite _
  | .cfgModeWrite _ | .registerWrite _ _ => true
  | _ => false

/-- What a command keeps: the array unless it is one that moves bytes, the configuration unless it may write it. -/
def CommandKeeps (c : Instr) (s t : State) : Prop :=
  (movesBytes c = false → KeepsArray s t) ∧ (writesConfiguration c = false → KeepsConfig s t)

theorem CommandKeeps.unmoved {c : Instr} {effect : State → State} (h : Unmoved s (effect s)) :
    CommandKeeps c s (whenRunning effect s) := by
  unfold whenRunning
  split_ifs
  · exact ⟨fun _ => h.1, fun _ => h.2⟩
  · exact ⟨fun _ => Unmoved.refl.1, fun _ => Unmoved.refl.2⟩

theorem CommandKeeps.moving {c : Instr} {effect : State → State} (moves : movesBytes c = true)
    (h : KeepsConfig s (effect s)) : CommandKeeps c s (whenRunning effect s) := by
  unfold whenRunning
  split_ifs
  · exact ⟨fun still => absurd moves (by rw [still]; decide), fun _ => h⟩
  · exact ⟨fun _ => Unmoved.refl.1, fun _ => Unmoved.refl.2⟩

theorem CommandKeeps.writing {c : Instr} {effect : State → State} (writes : writesConfiguration c = true)
    (h : KeepsArray s (effect s)) : CommandKeeps c s (whenRunning effect s) := by
  unfold whenRunning
  split_ifs
  · exact ⟨fun _ => h, fun still => absurd writes (by rw [still]; decide)⟩
  · exact ⟨fun _ => Unmoved.refl.1, fun _ => Unmoved.refl.2⟩

theorem exec_commandKeeps {c : Instr} (h : exec c s = .next t) (release : ∀ straps, c ≠ .rstinRelease straps) :
    CommandKeeps c s t := by
  cases c <;> cases h
  case rstinAssert => exact .unmoved (.of_eq rfl rfl rfl rfl)
  case rstinRelease straps => exact absurd rfl (release straps)
  case powerUpPauseExpiry => exact .unmoved pauseExpired_unmoved
  case initCycleCompletion => exact .unmoved initCycleDone_unmoved
  case grant => exact .unmoved arbitrate_unmoved
  case rowRefreshCompletion => exact .unmoved rowRefreshDone_unmoved
  case rowCloseCompletion => exact .unmoved rowCloseDone_unmoved
  case hostAccessCompletion decay => exact .moving rfl (hostAccessDone_keepsConfig decay)
  case failedHeadCompletion => exact .unmoved checkHead_unmoved.arbitrated
  case copyBurstCompletion decay => exact .moving rfl (copyBurstDone_keepsConfig decay)
  case unwindEnd => exact .unmoved (testUnwind_jobChange s).unmoved.arbitrated
  case patternBurstCompletion => exact .moving rfl patternBurstDone_keepsConfig
  case checkBurstCompletion decay => exact .moving rfl (checkBurstDone_keepsConfig decay)
  case logWaitAppend => exact .unmoved (serveWaiting_probeChange s).job.unmoved
  case openRowTimerExpiry d => exact .unmoved (openRowExpired_unmoved d)
  case sliceTimerExpiry => exact .unmoved sliceExpired_unmoved
  case externalSensorTimeout => exact .unmoved (testSensorTimeout_passChange s).unmoved.arbitrated
  case heldExpiryTaken => exact .unmoved (releaseHeld_passChange s).unmoved.arbitrated
  case scanVisit => exact .unmoved scan_unmoved
  case forcedClear =>
    refine .unmoved (Unmoved.arbitrated ?_)
    rw [testForced_eq]
    exact .of_eq rfl rfl rfl rfl
  case stretchTimerExpiry k => exact .unmoved (stretchExpired_unmoved k)
  case conversionCompletion measured => exact .unmoved (conversionDone_unmoved measured)
  case softReset value => exact .unmoved (writeControl_unmoved value)
  case rqPost => exact .unmoved post_unmoved
  case stageData value => exact .unmoved (stage_unmoved value)
  case cqData => split_ifs <;> exact ⟨fun _ => ⟨rfl, rfl, rfl⟩, fun _ => ⟨rfl, rfl⟩⟩
  case cqPop => exact .unmoved popCompletion_unmoved
  case evtWrite value => exact .unmoved (.of_eq rfl rfl rfl rfl)
  case evtMaskWrite value => exact .unmoved (.of_eq rfl rfl rfl rfl)
  case cfgTbaseWrite value => exact .writing rfl (configWrite_keepsArray _)
  case cfgPageWrite value => exact .writing rfl (configWrite_keepsArray _)
  case cfgEpochWrite value => exact .writing rfl (configWrite_keepsArray _)
  case cfgAgeWrite value => exact .writing rfl (configWrite_keepsArray _)
  case cfgWarmWrite value => exact .writing rfl (configWrite_keepsArray _)
  case cfgHotWrite value => exact .writing rfl (configWrite_keepsArray _)
  case cfgModeWrite value => exact .writing rfl (writeMode_keepsArray value)
  case registerWrite address value => exact .writing rfl (writeRegister_keepsArray address value)
  case probeStart => exact .unmoved (takeCommand_unmoved 1 fun _ _ => probeStartBody_accepted)
  case probeAbort => exact .unmoved (takeCommand_unmoved 2 fun _ _ => probeAbortBody_accepted)
  case retire => exact .unmoved (takeCommand_unmoved 3 fun _ _ => retireBody_accepted)
  case recordRead => exact .unmoved (takeCommand_unmoved 4 fun _ _ => recordReadBody_accepted)
  case recordWrite => exact .unmoved (takeCommand_unmoved 5 fun _ _ => recordWriteBody_accepted)
  case logRead => exact .unmoved (takeCommand_unmoved 6 fun _ _ => logReadBody_accepted)
  case logPop => exact .unmoved (takeCommand_unmoved 7 fun _ _ => logPopBody_accepted)
  case tempSupply => exact .unmoved (takeCommand_unmoved 8 fun _ _ => tempSupplyBody_accepted)
  case badCmd code => exact .unmoved (takeCommand_unmoved code fun _ _ => commandBody_accepted code)

/-- Settles O4. -/
theorem arrayAndConfigurationFrame : Obligations.ArrayAndConfigurationFrame := by
  intro c s t h release
  obtain ⟨array, config⟩ := exec_commandKeeps h release
  refine ⟨?_, fun host copy check pattern r column => ?_, fun tbase page epoch age warm hot mode register => ?_⟩
  · cases moves : movesBytes c with
    | false => exact (array moves).deviceCount
    | true =>
      refine (config ?_).deviceCount
      cases c <;> simp_all [movesBytes, writesConfiguration]
  · have still : movesBytes c = false := by cases c <;> simp_all [movesBytes]
    exact readByte_congr (array still).array (array still).powerCycle r column.val
  · have still : writesConfiguration c = false := by cases c <;> simp_all [writesConfiguration]
    exact (config still).config

end Sys2Proof.Machine
end

section
/-! PROOFS. The power-on reset, and that the state after it meets every law. -/

namespace Sys2Proof.Machine

open Sys2Proof

variable {s t u : State}

/-! ### The state after reset -/

theorem contextOf_reset (k : ContextId) : contextOf State.reset k = ProbeContext.atReset := Quad.get_all _ k

theorem recordOf_reset (r : Row) : recordOf State.reset r = powerOnRecord r := rfl

theorem deviceState_reset (d : DeviceId) :
    deviceState State.reset d = { openRow := none, timer := .stopped, closeClaim := false } := Quad.get_all _ d

theorem reset_bound : Bound State.reset :=
  (Bound.of_release (s := State.reset) 0).of_moves (.of_eq rfl)

theorem reset_logLaw : logLaw State.reset := logLaw_of_powerOn rfl

theorem reset_probeLaw : probeLaw State.reset := probeLaw_iff.mpr ⟨reset_logLaw, reset_bound⟩

theorem reset_placed : Placed State.reset :=
  have released := Placed.of_release (s := State.reset) 0
  ⟨released.reserved, released.entry, released.covered, released.context⟩

theorem reset_dueQueueLaw : dueQueueLaw State.reset := by
  refine ⟨List.nodup_nil, fun r => ?_, nofun⟩
  rw [recordOf_reset]
  exact ⟨nofun, nofun⟩

theorem reset_openRowLaw : openRowLaw State.reset := by
  refine ⟨fun _ d => ?_, nofun⟩
  rw [deviceState_reset]
  exact ⟨⟨nofun, nofun⟩, fun _ => rfl, fun _ => ⟨fun runs => absurd rfl runs, nofun⟩⟩

theorem reset_thermalLaw : thermalLaw State.reset := by
  refine ⟨fun _ => rfl, fun _ k => ?_⟩
  rw [contextOf_reset]
  rfl

theorem recordFits_powerOnRecord (r : Row) : recordFits (powerOnRecord r) := by
  unfold powerOnRecord
  split_ifs <;> simp [recordFits, classAndMarginFit]

theorem reset_recordLaw : recordLaw State.reset := by
  refine recordLaw_iff.mpr ⟨by decide, recordFits_powerOnRecord, fun k => ?_⟩
  rw [contextOf_reset]
  exact ⟨⟨by decide, by decide, by decide⟩, nofun, nofun⟩

/-- Settles O19. -/
theorem resetMeetsEveryLaw : Obligations.ResetMeetsEveryLaw := by
  refine ⟨tablesCanonical_iff.mpr ⟨reset_array_wf, List.Pairwise.nil, fun r => nofun, List.Pairwise.nil⟩, ?_, ?_, ?_,
    reset_dueQueueLaw, ?_, ?_, ?_, reset_openRowLaw, reset_recordLaw, placeLaw_iff.mpr ⟨reset_probeLaw, reset_placed⟩,
    reset_thermalLaw, nofun, ?_, ?_⟩
  · unfold interruptLaw; decide
  · unfold configurationLaw; decide
  · exact capacityLaw_iff.mpr powerOn_fits
  · exact pendingLaw_iff.mpr ⟨⟨by decide, by decide, rfl⟩, nofun⟩
  · exact neverIdle_of_not_serving (.inr rfl)
  · exact enginesLaw_of_free rfl rfl rfl rfl
  · exact failedHeadLaw_of_empty rfl
  · exact unreadyLaw_iff.mpr ⟨reset_probeLaw, ⟨rfl, rfl, rfl, rfl, rfl⟩, fun k => by rw [contextOf_reset]; rfl⟩

/-! ### RSTIN# -/

/-- The registers after a release do not depend on the state before it. -/
theorem readRegister_releaseReset (straps : BitVec 2) (address : BitVec 6) :
    readRegister (releaseReset straps s) address = powerOnWord straps address := by
  have words : ∀ (straps : BitVec 2) (address : BitVec 6),
      readRegister (releaseReset straps State.reset) address = powerOnWord straps address := by decide
  exact words straps address

/-- While RSTIN# is low no register reads otherwise than 0 (R164). -/
theorem readRegister_of_low (low : running s = false) (address : BitVec 6) : readRegister s address = 0 := by
  rw [readRegister, low]
  rfl

theorem recordOf_releaseReset (straps : BitVec 2) (r : Row) :
    recordOf (releaseReset straps s) r =
      { status := if 1022 ≤ r.number.val then .reserved else .unprofiled, cls := 0, margin := 0, stamp := none,
        queued := false, spare := none } := by
  show powerOnRecord r = _
  unfold powerOnRecord isReservedRow
  simp

/-- Settles O20. -/
theorem powerOnReset : Obligations.PowerOnReset := by
  refine ⟨fun straps s => ⟨releaseReset straps s, rfl, rfl, rfl, rfl, Quad.get_all _, rfl, rfl, rfl,
    recordOf_releaseReset straps, rfl, rfl, rfl, rfl, rfl, rfl, fun k => ?_, rfl, rfl, rfl, rfl,
    readRegister_releaseReset straps, fun r column => rfl⟩, fun s run => ⟨assertReset s, ?_, rfl, rfl, fun d => ?_,
    chooseClaim_reset rfl, rfl, rfl, rfl, rfl, rfl, readRegister_of_low rfl⟩⟩
  · have context : contextOf (releaseReset straps s) k = ProbeContext.atReset := Quad.get_all _ k
    rw [context]
    rfl
  · show Host.Outcome.next (whenRunning assertReset s) = _
    rw [whenRunning, if_pos run]
  · fin_cases d <;> rfl

end Sys2Proof.Machine
end

section
/-! PROOFS. The pause, the initialisation sequence, the completions of refreshes and closes, and the open-row timers. -/

namespace Sys2Proof.Machine

open Sys2Proof

variable {s t u : State}

theorem running_of_controller {c : Controller} (controller : s.controller = some c) : running s = true := by
  rw [running, controller]
  rfl

/-! ### The choice made -/

theorem arbitrate_of_choice {claim : Claim} (free : s.port.operation = none) (chosen : chooseClaim s = some claim) :
    arbitrate s = grantClaim claim s := by
  unfold arbitrate
  split
  · simp_all
  · split
    · simp_all
    · simp_all

/-- The operation on the port after the choice is the chosen claim's descriptor. -/
theorem arbitrate_operation {claim : Claim} {op : PortOperation} (free : s.port.operation = none)
    (chosen : chooseClaim s = some claim) (granted : descriptor s claim = some op) :
    (arbitrate s).port.operation = some op := by
  rw [arbitrate_of_choice free chosen, grantClaim_operation granted]

/-- The initialisation sequence's claim comes first (R33). -/
theorem chooseClaim_init (controller : s.controller = some .init) (free : s.port.operation = none)
    (cycles : s.port.initCycle < 8 * s.deviceCount) : chooseClaim s = some .init := by
  have raised : claimRaised s .init = true := by
    simp [claimRaised, Claim.arises, Claim.condition, initRaised, initCycleInProgress, controller, free, cycles]
  exact List.find?_cons_of_pos raised

theorem departIfQueued_of_unqueued {r : Row} (unqueued : (recordOf s r).queued = false) : departIfQueued r s = s := by
  rw [departIfQueued, unqueued]
  rfl

/-! ### The pause -/

/-- The grant of the first cycle. -/
theorem arbitrate_firstCycle (controller : s.controller = some .init) (free : s.port.operation = none)
    (first : s.port.initCycle = 0) (present : 0 < s.deviceCount)
    (unqueued : (recordOf s { device := 0, number := 0 }).queued = false) :
    arbitrate s = { s with
      port := { s.port with
        operation := some (.initCycle { device := 0, number := 0 })
        devices := s.port.devices.set 0 { s.port.devices.get 0 with timer := .stopped, closeClaim := false } } } := by
  have granted : descriptor s .init = some (.initCycle { device := 0, number := 0 }) := by
    rw [descriptor, first]
    rfl
  rw [arbitrate_of_choice free (chooseClaim_init controller free (by omega)), grantClaim]
  split
  · simp_all
  · rename_i op same
    obtain rfl : PortOperation.initCycle { device := 0, number := 0 } = op := Option.some.inj (granted.symm.trans same)
    exact departIfQueued_of_unqueued unqueued

/-! ### The initialisation sequence -/

theorem initCycleDone_of_operation {row : Row} (op : s.port.operation = some (.initCycle row)) :
    initCycleDone s = arbitrate (
      let closed := { closeDevice row.device (freePort s) with
        port := { (closeDevice row.device (freePort s)).port with initCycle := s.port.initCycle + 1 } }
      if s.port.initCycle + 1 < 8 * s.deviceCount then closed else enterReady closed) := by
  unfold initCycleDone
  split
  · rename_i other same
    obtain rfl : row = other := by simpa using op.symm.trans same
    rfl
  all_goals simp_all

/-- Settles O21. -/
theorem pauseAndInitialisationSequence : Obligations.PauseAndInitialisationSequence := by
  constructor
  · intro s controller free present unqueued
    have granted := arbitrate_firstCycle
      (s := { s with controller := some .init, port := { s.port with pause := .stopped, initCycle := 0 } })
      rfl free rfl present unqueued
    show Host.Outcome.next (whenRunning pauseExpired s) = _
    rw [whenRunning_of_running (running_of_controller controller)]
    unfold pauseExpired
    split
    · rw [granted]
    all_goals simp_all
  · intro s row controller op devices closed
    have next : exec .initCycleCompletion s = .next (initCycleDone s) := by
      show Host.Outcome.next (whenRunning initCycleDone s) = _
      rw [whenRunning_of_running (running_of_controller controller)]
    rw [next, initCycleDone_of_operation op]
    refine ⟨fun more => ?_, fun last => ?_⟩
    · rw [if_pos more]
      refine ⟨rfl, (arbitrate_controller closed).trans controller, Fin.ofNat 4 ((s.port.initCycle + 1) / 8),
        Fin.ofNat 1024 ((s.port.initCycle + 1) % 8), ?_, ?_, ?_⟩
      · rw [Fin.val_ofNat]
        omega
      · rw [Fin.val_ofNat]
        omega
      · exact arbitrate_operation rfl (chooseClaim_init (s := closed) controller rfl more) rfl
    · rw [if_neg (by omega)]
      rfl

/-! ### Refreshes, closes and open-row timers -/

/-- Settles O25. -/
theorem rowRefreshAndRowCloseCompletions : Obligations.RowRefreshAndRowCloseCompletions := by
  intro s run
  constructor
  · intro row op
    show Host.Outcome.next (whenRunning rowRefreshDone s) = _
    rw [whenRunning_of_running run]
    unfold rowRefreshDone
    split
    · rename_i other same
      obtain rfl : row = other := by simpa using op.symm.trans same
      rfl
    all_goals simp_all
  · intro d op
    show Host.Outcome.next (whenRunning rowCloseDone s) = _
    rw [whenRunning_of_running run]
    unfold rowCloseDone
    split
    · rename_i other same
      obtain rfl : d = other := by simpa using op.symm.trans same
      rfl
    all_goals simp_all

/-- The close claim of the lowest device among those that claim comes first (R27). -/
theorem chooseClaim_close {d : DeviceId} (serving : s.controller = some .ready ∨ s.controller = some .resetting)
    (raised : (deviceState s d).closeClaim = true) (lowest : ∀ e : DeviceId, e < d → (deviceState s e).closeClaim = false) :
    chooseClaim s = some (.close d) := by
  have close : ∀ e : DeviceId, claimRaised s (.close e) = (deviceState s e).closeClaim := fun e => by
    obtain h | h := serving <;> simp [claimRaised, Claim.arises, Claim.condition, closeRaised, h]
  refine (arbiterChoosesFirstInOrder s _).mpr ⟨(close d).trans raised, rfl, fun other waits _ => ?_⟩
  cases other with
  | init =>
    obtain h | h := serving <;> simp [claimRaised, Claim.arises, h] at waits
  | close e =>
    have : ¬ e < d := fun lt => by rw [close, lowest e lt] at waits; cases waits
    show 1 + d.val ≤ 1 + e.val
    have := Fin.not_lt.mp this
    exact Nat.add_le_add_left this 1
  | refresh urgent =>
    have := d.isLt
    show 1 + d.val ≤ if urgent then 5 else 12
    split_ifs <;> omega
  | request =>
    have := d.isLt
    show 1 + d.val ≤ if s.port.hostGrants = 8 then 11 else 6
    split_ifs <;> omega
  | copy =>
    have := d.isLt
    show 1 + d.val ≤ if s.port.hostGrants = 8 then 6 else 7
    split_ifs <;> omega
  | probe k =>
    have := d.isLt
    show 1 + d.val ≤ if s.port.hostGrants = 8 then 7 + k.val else 8 + k.val
    split_ifs <;> omega

/-- Settles O26. -/
theorem openRowTimerExpiryRaisesCloseClaim : Obligations.OpenRowTimerExpiryRaisesCloseClaim := by
  intro s d length elapsed run timer raised
  have device : ∀ e, deviceState raised e =
      if e = d then { deviceState s d with timer := .expired, closeClaim := true } else deviceState s e :=
    fun e => deviceState_setDevice s d e _
  constructor
  · show Host.Outcome.next (whenRunning (openRowExpired d) s) = _
    rw [whenRunning_of_running run, openRowExpired, timer]
    rfl
  · intro free serving lowest
    refine arbitrate_operation free (chooseClaim_close serving ?_ fun e lower => ?_) rfl
    · rw [device, if_pos rfl]
    · rw [device, if_neg lower.ne]
      exact lowest e lower

end Sys2Proof.Machine
end

section
/-! PROOFS. Claims, descriptors and grants. -/

namespace Sys2Proof.Machine

open Sys2Proof

variable {s t u : State}

/-! ### The redirect lookup and the head of the queue -/

theorem lookup_home_iff (home : Row) : lookup s home = .home ↔ ∀ p ∈ s.redirects, p.2.home ≠ home := by
  have found : redirectOf s home = none ↔ ∀ p ∈ s.redirects, p.2.home ≠ home := by
    simp [redirectOf, List.find?_eq_none]
  rw [← found]
  unfold lookup
  split
  · simp [*]
  · rename_i i e entry
    rw [entry]
    cases e.state <;> simp

/-- The entry of a home row is the one that the lookup finds (R99). -/
theorem redirectOf_of_entry (law : redirectLaw s) {i : ReservedIndex} {e : RedirectEntry} (entry : redirectAt s i = some e) :
    redirectOf s e.home = some (i, e) := by
  have mem := (redirectAt_eq_some_iff law).mp entry
  cases found : s.redirects.find? (fun p => decide (p.2.home = e.home)) with
  | none => exact absurd (decide_eq_true rfl) (List.find?_eq_none.mp found _ mem)
  | some p =>
    have home : p.2.home = e.home := by
      have := List.find?_some found
      exact of_decide_eq_true this
    obtain ⟨j, key, at_⟩ := exists_index_of_mem law (List.mem_of_find?_eq_some found)
    obtain ⟨rfl, same⟩ := redirect_home_inj law at_ entry home
    rw [redirectOf, found, Option.map_some, ← key, ← same]
    simp

theorem lookup_of_entry (law : redirectLaw s) {i : ReservedIndex} {e : RedirectEntry} (entry : redirectAt s i = some e) :
    lookup s e.home = if e.state = .parkHeld ∨ e.state = .spareActive then .reserved i else .held := by
  rw [lookup, redirectOf_of_entry law entry]
  dsimp only
  generalize e.state = state
  cases state <;> simp

theorem headCondition_eq {q : Request} {rest : List Request} (head : s.requests.requests = q :: rest) :
    headCondition s = some (
      if s.requests.access.any (fun a => !a.discarded) then .inAccess
      else if (requestFailure s.deviceCount q).isSome then .failed
      else if 16 ≤ s.requests.completions.length then .blocked
      else if lookup s q.row = .held then .stalled
      else .claiming) := by
  have room : (!completionRoom s) = true ↔ 16 ≤ s.requests.completions.length := by
    rw [completionRoom, Bool.not_eq_true', decide_eq_false_iff_not, not_lt, Config.queueEntries]
  unfold headCondition
  rw [head]
  dsimp only
  rw [liveAccess_eq, executionCheck_eq_requestFailure]
  split
  · rfl
  · split
    · rfl
    · by_cases full : 16 ≤ s.requests.completions.length
      · rw [if_pos (room.mpr full), if_pos full]
      · rw [if_neg (mt room.mp full), if_neg full]
        cases lookup s q.row <;> rfl

/-! ### When each claim waits -/

/-- The controller states in which most claims can arise. -/
def Serving (s : State) : Prop := s.controller = some .ready ∨ s.controller = some .resetting

theorem claimRaised_close_iff (d : DeviceId) :
    claimRaised s (.close d) = true ↔ Serving s ∧ (deviceState s d).closeClaim = true := by
  unfold claimRaised Serving
  rw [Bool.and_eq_true]
  refine and_congr_left fun _ => ?_
  cases s.controller with
  | none => simp [Claim.arises]
  | some c => cases c <;> simp [Claim.arises]

theorem arises_serving_iff (claim : Claim) (kind : claim = .copy ∨ ∃ urgent, claim = .refresh urgent) :
    claim.arises s.controller = true ↔ Serving s := by
  unfold Serving
  obtain rfl | ⟨urgent, rfl⟩ := kind <;> cases s.controller with
  | none => simp [Claim.arises]
  | some c => cases c <;> simp [Claim.arises]

theorem arises_ready_iff (claim : Claim) (kind : claim = .request ∨ ∃ k, claim = .probe k) :
    claim.arises s.controller = true ↔ s.controller = some .ready := by
  obtain rfl | ⟨k, rfl⟩ := kind <;> cases s.controller with
  | none => simp [Claim.arises]
  | some c => cases c <;> simp [Claim.arises]

theorem claimRaised_refresh_iff (urgent : Bool) :
    claimRaised s (.refresh urgent) = true ↔ Serving s ∧ s.scheduler.refreshing = false ∧
      ∃ e rest, s.scheduler.due = e :: rest ∧ (urgent = true ↔ e.stamp ≠ s.scheduler.serial) := by
  unfold claimRaised
  rw [Bool.and_eq_true, arises_serving_iff _ (.inr ⟨urgent, rfl⟩)]
  refine and_congr_right fun _ => ?_
  unfold Claim.condition refreshRaised headUrgent
  cases s.scheduler.due with
  | nil => simp
  | cons e rest =>
    cases urgent <;> simp [isUrgent]

theorem claimRaised_request_iff : claimRaised s .request = true ↔ s.controller = some .ready ∧ s.requests.access = none ∧
    headCondition s = some .claiming := by
  unfold claimRaised
  rw [Bool.and_eq_true, arises_ready_iff _ (.inl rfl)]
  simp [Claim.condition, requestRaised]

theorem claimRaised_copy_iff : claimRaised s .copy = true ↔ Serving s ∧ s.copy.engine = .idle ∧
    ∃ j rest, s.copy.queue = j :: rest ∧ j.progress < 8 := by
  unfold claimRaised
  rw [Bool.and_eq_true, arises_serving_iff _ (.inl rfl)]
  refine and_congr_right fun _ => ?_
  unfold Claim.condition copyRaised
  cases s.copy.queue with
  | nil => simp
  | cons j rest =>
    have eight : Config.burstsPerRow = 8 := rfl
    simp only [Bool.and_eq_true, decide_eq_true_iff]
    simp [eight, and_comm]

theorem burstInProgress_eq_false_iff (k : ContextId) : burstInProgress s k = false ↔
    ∀ row burst bytes, s.port.operation ≠ some (.patternBurst k row burst bytes) ∧
      s.port.operation ≠ some (.checkBurst k row burst bytes) := by
  unfold burstInProgress
  cases s.port.operation with
  | none => simp
  | some op =>
    cases op with
    | patternBurst j row burst bytes =>
      simp only [decide_eq_false_iff_not]
      constructor
      · rintro other _ _ _
        exact ⟨fun same => other (by cases same; rfl), nofun⟩
      · rintro none_ rfl
        exact (none_ row burst bytes).1 rfl
    | checkBurst j row burst bytes =>
      simp only [decide_eq_false_iff_not]
      constructor
      · rintro other _ _ _
        exact ⟨nofun, fun same => other (by cases same; rfl)⟩
      · rintro none_ rfl
        exact (none_ row burst bytes).2 rfl
    | rowRefresh | rowClose | hostAccess | copyBurst | initCycle => simp

theorem claimRaised_probe_iff (k : ContextId) : claimRaised s (.probe k) = true ↔ s.controller = some .ready ∧
    ((contextOf s k).state = .writing ∨ (contextOf s k).state = .checking) ∧ (contextOf s k).burstsDone < 8 ∧
    ∀ row burst bytes, s.port.operation ≠ some (.patternBurst k row burst bytes) ∧
      s.port.operation ≠ some (.checkBurst k row burst bytes) := by
  unfold claimRaised
  rw [Bool.and_eq_true, arises_ready_iff _ (.inr ⟨k, rfl⟩), ← burstInProgress_eq_false_iff]
  have eight : Config.burstsPerRow = 8 := rfl
  simp only [Claim.condition, probeRaised, Bool.and_eq_true, decide_eq_true_iff]
  simp [eight, and_assoc]

theorem claimRaised_init_iff : claimRaised s .init = true ↔ s.controller = some .init ∧
    s.port.initCycle < 8 * s.deviceCount ∧ ∀ row, s.port.operation ≠ some (.initCycle row) := by
  have cycle : initCycleInProgress s = false ↔ ∀ row, s.port.operation ≠ some (.initCycle row) := by
    unfold initCycleInProgress
    cases s.port.operation with
    | none => simp
    | some op => cases op <;> simp
  unfold claimRaised
  rw [Bool.and_eq_true, ← cycle]
  refine and_congr ?_ (by simp [Claim.condition, initRaised])
  cases s.controller with
  | none => simp [Claim.arises]
  | some c => cases c <;> simp [Claim.arises]

theorem maintenanceWaiting_iff : maintenanceWaiting s = true ↔
    claimRaised s .copy = true ∨ ∃ k, claimRaised s (.probe k) = true := by
  unfold maintenanceWaiting
  rw [Bool.or_eq_true, List.any_eq_true]
  simp

theorem PortOperation.isHit_iff (op : PortOperation) : op.isHit = true ↔ ∃ target kind column length bytes pageOpen,
    op = .hostAccess target kind column length bytes pageOpen true := by
  cases op <;> simp [PortOperation.isHit]

theorem PortOperation.devices_eq (op : PortOperation) : op.devices = (match op with
      | .rowRefresh row => [row.device]
      | .rowClose d => [d]
      | .hostAccess target _ _ _ _ _ _ => [target.device]
      | .copyBurst source target _ => [source.device, target.device]
      | .patternBurst _ row _ _ => [row.device]
      | .checkBurst _ row _ _ => [row.device]
      | .initCycle row => [row.device]) := by
  cases op <;> rfl

theorem reservedRow_eq (i : ReservedIndex) :
    (reservedRow i).device.val = i.val / 2 ∧ (reservedRow i).number.val = 1022 + i.val % 2 := by
  revert i
  decide

/-! ### The descriptors -/

theorem request_descriptor_eq {q : Request} {rest : List Request} (head : s.requests.requests = q :: rest) :
    descriptor s .request = some (hostDescriptor s q) := by
  rw [descriptor, head]
  rfl

theorem copy_descriptor_eq {j : CopyJob} {rest : List CopyJob} (head : s.copy.queue = j :: rest) :
    descriptor s .copy = some (match j.kind with
      | .park => .copyBurst j.home (reservedRow j.index) j.progress
      | .retire => .copyBurst j.home (reservedRow j.index) j.progress
      | .restore => .copyBurst (reservedRow j.index) j.home j.progress) := by
  rw [descriptor, head, List.head?_cons, Option.map_some, CopyJob.rows]
  cases j.kind <;> rfl

/-! ### What a grant leaves -/

theorem Departure.withPort (h : Departure s t) (port : ArrayPort) :
    Departure { s with port := port } { t with port := port } := by
  obtain ⟨frame, record, queued, due, cursor, forced, law⟩ := h
  exact ⟨congrArg (fun v : State => { v with port := port }) frame, record, queued, due, cursor, forced, law⟩

/-- The state with what the claimant does in its own block: the due queue and the records are still as before. -/
def claimed (claim : Claim) (s : State) : State :=
  { s with
    scheduler := { s.scheduler with refreshing := (claimantEffects claim s).scheduler.refreshing }
    requests := (claimantEffects claim s).requests
    copy := (claimantEffects claim s).copy
    probes := (claimantEffects claim s).probes }

theorem claimantEffects_departure (claim : Claim) {op : PortOperation} (granted : descriptor s claim = some op) :
    Departure (claimed claim s) (claimantEffects claim s) := by
  unfold claimed
  cases claim with
  | refresh urgent =>
    obtain ⟨e, rest, head, -⟩ := refresh_descriptor granted
    rw [claimantEffects, takeRefreshHead_eq head]
    have departs := departDue_departure (s := { s with scheduler := { s.scheduler with refreshing := true } }) e.row
    have requests : (departDue e.row { s with scheduler := { s.scheduler with refreshing := true } }).requests = s.requests := by
      rw [departs.frame]
    have copy : (departDue e.row { s with scheduler := { s.scheduler with refreshing := true } }).copy = s.copy := by
      rw [departs.frame]
    have probes : (departDue e.row { s with scheduler := { s.scheduler with refreshing := true } }).probes = s.probes := by
      rw [departs.frame]
    have refreshing : (departDue e.row
        { s with scheduler := { s.scheduler with refreshing := true } }).scheduler.refreshing = true := by
      rw [departs.frame]
    rw [requests, copy, probes, refreshing]
    exact departs
  | request =>
    obtain ⟨q, rest, head, -⟩ := request_descriptor granted
    rw [claimantEffects, fillAccessRecord_eq head]
    exact .refl
  | close d => exact .refl
  | copy => exact .refl
  | probe k => exact .refl
  | init => exact .refl

/-- A grant is what the claimant does, the port's part and departures from the due queue. -/
theorem grantClaim_departs {claim : Claim} {op : PortOperation} (granted : descriptor s claim = some op) :
    Departure { claimed claim s with port := (grantClaim claim s).port } (grantClaim claim s) :=
  ((claimantEffects_departure claim granted).withPort _).trans (grantClaim_departure granted)

theorem claimantEffects_refreshing (claim : Claim) {op : PortOperation} (granted : descriptor s claim = some op) :
    (claimantEffects claim s).scheduler.refreshing = (s.scheduler.refreshing || op.isRefresh) := by
  cases claim with
  | refresh urgent =>
    obtain ⟨e, rest, head, rfl⟩ := refresh_descriptor granted
    rw [claimantEffects, takeRefreshHead_eq head, (departDue_departure e.row).frame]
    simp [PortOperation.isRefresh]
  | request =>
    obtain ⟨q, rest, head, rfl⟩ := request_descriptor granted
    rw [claimantEffects, fillAccessRecord_eq head]
    simp [hostDescriptor, PortOperation.isRefresh]
  | close d =>
    obtain rfl : PortOperation.rowClose d = op := Option.some.inj granted
    simp [claimantEffects, PortOperation.isRefresh]
  | copy =>
    obtain ⟨j, rest, head, rfl⟩ := copy_descriptor granted
    simp [claimantEffects, PortOperation.isRefresh]
  | probe k =>
    obtain ⟨row, burst, bytes, rfl | rfl⟩ := probe_descriptor granted <;>
      simp [claimantEffects, PortOperation.isRefresh, setContext]
  | init =>
    obtain rfl := Option.some.inj granted
    simp [claimantEffects, PortOperation.isRefresh]

theorem claimantEffects_copy (claim : Claim) {op : PortOperation} (granted : descriptor s claim = some op) :
    (claimantEffects claim s).copy =
      { s.copy with engine := if claim = .copy then .copying false else s.copy.engine } := by
  cases claim with
  | refresh urgent =>
    obtain ⟨e, rest, head, -⟩ := refresh_descriptor granted
    rw [claimantEffects, takeRefreshHead_eq head, (departDue_departure e.row).frame]
    rfl
  | request =>
    obtain ⟨q, rest, head, -⟩ := request_descriptor granted
    rw [claimantEffects, fillAccessRecord_eq head]
    rfl
  | close | copy | probe | init => rfl

theorem claimantEffects_requests (claim : Claim) {op : PortOperation} (granted : descriptor s claim = some op)
    (other : claim ≠ .request) : (claimantEffects claim s).requests = s.requests := by
  cases claim with
  | refresh urgent =>
    obtain ⟨e, rest, head, -⟩ := refresh_descriptor granted
    rw [claimantEffects, takeRefreshHead_eq head, (departDue_departure e.row).frame]
  | request => exact absurd rfl other
  | close | copy | probe | init => rfl

/-- What GRANT does to the free port (R26, R29), and the state it leaves. -/
theorem grantClaim_frame {claim : Claim} {op : PortOperation} (granted : descriptor s claim = some op) :
    grantClaim claim s = { s with
      port := { s.port with
        operation := (grantClaim claim s).port.operation, devices := (grantClaim claim s).port.devices
        hostGrants := (grantClaim claim s).port.hostGrants }
      records := (grantClaim claim s).records
      scheduler := { s.scheduler with
        due := (grantClaim claim s).scheduler.due, forced := (grantClaim claim s).scheduler.forced
        cursor := (grantClaim claim s).scheduler.cursor, refreshing := (grantClaim claim s).scheduler.refreshing }
      requests := (grantClaim claim s).requests
      copy := { s.copy with engine := (grantClaim claim s).copy.engine }
      probes := { s.probes with contexts := (grantClaim claim s).probes.contexts } } := by
  obtain ⟨port, records, due, cursor, forced, refreshing, access, engine, contexts, eq⟩ := grantClaim_grantOf s claim
  have ports : (grantClaim claim s).port = { s.port with
      operation := (grantClaim claim s).port.operation, devices := (grantClaim claim s).port.devices
      hostGrants := (grantClaim claim s).port.hostGrants } := by
    rw [grantClaim_port granted]
  generalize grantClaim claim s = t at ports eq ⊢
  subst eq
  exact congrArg (fun port => withGrant s port records due cursor forced refreshing access engine contexts) ports

theorem contextOf_grantClaim_lfsr {claim : Claim} {op : PortOperation} (granted : descriptor s claim = some op)
    (k : ContextId) : { contextOf (grantClaim claim s) k with lfsr := 0 } = { contextOf s k with lfsr := 0 } := by
  rw [contextOf_grantClaim granted]
  split_ifs
  · rw [advanceRegister_eq]
    split_ifs <;> rfl
  · rfl

/-- Settles O22. -/
theorem grantGivesPortToChosenClaim : Obligations.GrantGivesPortToChosenClaim := by
  refine ⟨fun s home => lookup_home_iff home, fun s i e law entry => lookup_of_entry law entry,
    fun s => ⟨fun empty => by rw [headCondition, empty], fun q rest head => headCondition_eq head⟩,
    fun s => ⟨claimRaised_close_iff, claimRaised_refresh_iff, claimRaised_request_iff, claimRaised_copy_iff,
      claimRaised_probe_iff, claimRaised_init_iff⟩, reservedRow_eq, fun op => ⟨op.devices_eq, op.isHit_iff⟩, fun s => ?_, ?_⟩
  · refine ⟨fun d => rfl, fun urgent e rest head => ?_, fun q rest head => ?_, fun j rest head => copy_descriptor_eq head,
      fun k => ⟨fun writing => ?_, fun checking => ?_⟩, fun cycles => ?_⟩
    · rw [descriptor, head]
      rfl
    · rw [request_descriptor_eq head]
      unfold hostDescriptor targetOf requestBytes
      cases lookup s q.row <;> rfl
    · rw [descriptor, writing]
    · rw [descriptor, checking]
    · refine ⟨Fin.ofNat 4 (s.port.initCycle / 8), Fin.ofNat 1024 (s.port.initCycle % 8), ?_, ?_, rfl⟩
      · rw [Fin.val_ofNat]
        omega
      · rw [Fin.val_ofNat]
        omega
  · intro s claim run free chosen
    obtain ⟨op, granted⟩ := descriptor_of_raised (chooseClaim_raised chosen).1
    have departs := grantClaim_departs granted
    refine ⟨op, grantClaim claim s, granted, ?_, grantClaim_operation granted, ?_, maintenanceWaiting_iff,
      deviceState_grantClaim granted, ?_, ?_, fun other => ?_, fun request => ?_, fun home => rfl, fun k => ⟨?_, fun other => ?_⟩,
      fun k same => ?_, departs.record, departs.due, departs.cursor, departs.forced, grantClaim_frame granted⟩
    · show Host.Outcome.next (whenRunning arbitrate s) = _
      rw [whenRunning_of_running run, arbitrate_of_choice free chosen]
    · rw [grantClaim_port granted]
      cases claim <;> rfl
    · rw [grantClaim_refreshing granted, claimantEffects_refreshing claim granted]
    · rw [grantClaim_copy granted, claimantEffects_copy claim granted]
    · rw [grantClaim_requests granted, claimantEffects_requests claim granted other]
    · subst request
      obtain ⟨q, rest, head, -⟩ := request_descriptor granted
      refine ⟨q, rest, head, ?_⟩
      rw [grantClaim_requests granted, claimantEffects, fillAccessRecord_eq head]
    · exact contextOf_grantClaim_lfsr granted k
    · rw [contextOf_grantClaim granted, if_neg other]
    · rw [contextOf_grantClaim granted, if_pos same, advanceRegister_eq]

end Sys2Proof.Machine
end

section
/-! PROOFS. The due entries that a grant removes, with the cursor and FORCED following. -/

namespace Sys2Proof.Machine

open Sys2Proof

variable {s t u : State}

/-! ### Departures of several rows -/

/-- The rows' entries have left the due queue, with all that a departure brings (R31, R67, R70, R73). -/
structure Credited (rows : List Row) (s t : State) : Prop where
  due : t.scheduler.due = s.scheduler.due.filter (fun e => !rows.contains e.row)
  queued : ∀ r, (recordOf t r).queued = ((recordOf s r).queued && !rows.contains r)
  cursor : t.scheduler.cursor =
    if s.scheduler.due.any (fun e => rows.contains e.row) = true ∧ t.scheduler.due.length < 512
    then s.scheduler.cursor.map (fun c => { c with paused := false }) else s.scheduler.cursor
  forced : t.scheduler.forced = true ↔ s.scheduler.forced = true ∧
    ¬ (s.scheduler.due.any (fun e => rows.contains e.row) = true ∧ s.scheduler.pendingSlices = 0 ∧
      ∀ e ∈ t.scheduler.due, e.stamp = s.scheduler.serial)
  pending : t.scheduler.pendingSlices = s.scheduler.pendingSlices
  serial : t.scheduler.serial = s.scheduler.serial

/-- A row is queued just where it stands in the due queue (R69). -/
def Flagged (s : State) : Prop :=
  ∀ r, (recordOf s r).queued = true ↔ r ∈ s.scheduler.due.map DueEntry.row

theorem Credited.flagged {rows : List Row} (credited : Credited rows s t) (flagged : Flagged s) : Flagged t := by
  intro r
  rw [credited.queued, credited.due, Bool.and_eq_true, flagged r]
  simp only [List.mem_map, List.mem_filter, Bool.not_eq_true']
  constructor
  · rintro ⟨⟨e, mem, rfl⟩, other⟩
    exact ⟨e, ⟨mem, other⟩, rfl⟩
  · rintro ⟨e, ⟨mem, other⟩, rfl⟩
    exact ⟨⟨e, mem, rfl⟩, other⟩

theorem Credited.of_eq (scheduler : t.scheduler = s.scheduler) (records : t.records = s.records) : Credited [] s t := by
  have none_ : ¬ s.scheduler.due.any (fun e => ([] : List Row).contains e.row) = true := by simp
  refine ⟨?_, fun r => ?_, ?_, ?_, by rw [scheduler], by rw [scheduler]⟩
  · rw [scheduler]
    simp
  · rw [recordOf_congr records]
    simp
  · rw [if_neg fun h => none_ h.1, scheduler]
  · rw [scheduler]
    exact ⟨fun forced => ⟨forced, fun h => none_ h.1⟩, fun h => h.1⟩

theorem departs_or {rows more : List Row} (due : List DueEntry) :
    due.any (fun e => (rows ++ more).contains e.row) =
      (due.any (fun e => rows.contains e.row) ||
        (due.filter (fun e => !rows.contains e.row)).any (fun e => more.contains e.row)) := by
  rw [Bool.eq_iff_iff]
  simp only [List.any_eq_true, Bool.or_eq_true, List.mem_filter, List.contains_eq_mem, List.mem_append,
    decide_eq_true_iff, Bool.not_eq_true', decide_eq_false_iff_not]
  constructor
  · rintro ⟨e, mem, here⟩
    by_cases first : e.row ∈ rows
    · exact .inl ⟨e, mem, first⟩
    · exact .inr ⟨e, ⟨mem, first⟩, here.resolve_left first⟩
  · rintro (⟨e, mem, here⟩ | ⟨e, ⟨mem, -⟩, here⟩)
    · exact ⟨e, mem, .inl here⟩
    · exact ⟨e, mem, .inr here⟩

theorem Credited.trans {rows more : List Row} (first : Credited rows s t) (second : Credited more t u) :
    Credited (rows ++ more) s u := by
  have shorter : u.scheduler.due.length ≤ t.scheduler.due.length := by
    rw [second.due]
    exact List.length_filter_le _ _
  have subset : ∀ e ∈ u.scheduler.due, e ∈ t.scheduler.due := fun e mem => by
    rw [second.due] at mem
    exact List.mem_of_mem_filter mem
  have still : ¬ t.scheduler.due.any (fun e => more.contains e.row) = true → u.scheduler.due = t.scheduler.due := fun h => by
    rw [second.due, List.filter_eq_self]
    intro e mem
    by_contra departs
    exact h (List.any_eq_true.mpr ⟨e, mem, by simpa using departs⟩)
  have departs := departs_or (rows := rows) (more := more) s.scheduler.due
  rw [← first.due] at departs
  refine ⟨?_, fun r => ?_, ?_, ?_, second.pending.trans first.pending, second.serial.trans first.serial⟩
  · rw [second.due, first.due, List.filter_filter]
    congr 1
    funext e
    simp [Bool.and_comm]
  · rw [second.queued, first.queued]
    simp [Bool.and_assoc]
  · have again : ∀ c : Option ScanCursor, (c.map fun c => { c with paused := false }).map (fun c => { c with paused := false }) =
        c.map fun c => { c with paused := false } := fun c => by rw [Option.map_map]; rfl
    rw [second.cursor, first.cursor, departs]
    by_cases later : t.scheduler.due.any (fun e => more.contains e.row) = true
    · rw [later, Bool.or_true]
      by_cases room : u.scheduler.due.length < 512
      · have both : true = true ∧ u.scheduler.due.length < 512 := ⟨rfl, room⟩
        rw [if_pos both, if_pos both]
        split_ifs
        · exact again _
        · rfl
      · have full : ¬ (true = true ∧ u.scheduler.due.length < 512) := fun h => room h.2
        rw [if_neg full, if_neg full, if_neg fun h => room (shorter.trans_lt h.2)]
    · rw [if_neg fun h => later h.1, still later, Bool.eq_false_iff.mpr later, Bool.or_false]
  · rw [second.forced, first.forced, departs, first.pending, first.serial]
    by_cases later : t.scheduler.due.any (fun e => more.contains e.row) = true
    · rw [later, Bool.or_true]
      constructor
      · rintro ⟨⟨forced, -⟩, urgent⟩
        exact ⟨forced, urgent⟩
      · rintro ⟨forced, urgent⟩
        exact ⟨⟨forced, fun ⟨_, none_, all⟩ => urgent ⟨rfl, none_, fun e mem => all e (subset e mem)⟩⟩, urgent⟩
    · rw [still later, Bool.eq_false_iff.mpr later, Bool.or_false]
      constructor
      · exact fun h => h.1
      · exact fun h => ⟨h, fun ⟨no, _⟩ => Bool.noConfusion no⟩

/-! ### One departure -/

theorem departDue_scheduler (r : Row) : (departDue r s).scheduler = { s.scheduler with
    due := s.scheduler.due.filter (fun e => decide (e.row ≠ r))
    cursor := if (s.scheduler.due.filter (fun e => decide (e.row ≠ r))).length < 512
      then s.scheduler.cursor.map (fun c => { c with paused := false }) else s.scheduler.cursor
    forced := s.scheduler.forced && !((s.scheduler.due.filter (fun e => decide (e.row ≠ r))).all
      (fun e => !decide (e.stamp ≠ s.scheduler.serial)) && s.scheduler.pendingSlices == 0) } := by
  unfold departDue
  rw [testForced_eq, resumeScan_eq]
  rfl

theorem departDue_credited {r : Row} (here : r ∈ s.scheduler.due.map DueEntry.row) : Credited [r] s (departDue r s) := by
  have departs : s.scheduler.due.any (fun e => [r].contains e.row) = true := by
    obtain ⟨e, mem, rfl⟩ := List.mem_map.mp here
    exact List.any_eq_true.mpr ⟨e, mem, by simp⟩
  have filters : s.scheduler.due.filter (fun e => decide (e.row ≠ r)) = s.scheduler.due.filter (fun e => !([r].contains e.row)) := by
    congr 1
    funext e
    simp
  refine ⟨?_, fun q => ?_, ?_, ?_, ?_, ?_⟩
  · rw [departDue_scheduler, ← filters]
  · rw [recordOf_departDue]
    by_cases same : q = r
    · subst same
      simp
    · simp [same]
  · rw [departDue_scheduler]
    simp only [departs, true_and]
  · rw [departDue_scheduler, departs]
    generalize s.scheduler.due.filter (fun e => decide (e.row ≠ r)) = due
    simp only [decide_not, Bool.not_not, Bool.and_eq_true, Bool.not_eq_true', Bool.and_eq_false_iff, true_and,
      List.all_eq_false, decide_eq_true_iff, beq_eq_false_iff_ne]
    refine and_congr_right fun _ => ⟨?_, fun stays => ?_⟩
    · rintro (⟨e, mem, urgent⟩ | pending) ⟨none_, all⟩
      · exact urgent (all e mem)
      · exact pending none_
    · by_contra clears
      push Not at clears
      exact stays ⟨clears.2, clears.1⟩
  · rw [departDue_scheduler]
  · rw [departDue_scheduler]

theorem departIfQueued_credited (flagged : Flagged s) (r : Row) : Credited [r] s (departIfQueued r s) := by
  unfold departIfQueued
  by_cases queued : (recordOf s r).queued = true
  · rw [if_pos queued]
    exact departDue_credited ((flagged r).mp queued)
  · rw [if_neg queued]
    have absent : ∀ e ∈ s.scheduler.due, e.row ≠ r := fun e mem same =>
      queued ((flagged r).mpr (List.mem_map.mpr ⟨e, mem, same⟩))
    have none_ : ¬ s.scheduler.due.any (fun e => [r].contains e.row) = true := by
      simpa [List.any_eq_true] using absent
    refine ⟨(List.filter_eq_self.mpr fun e mem => by simpa using absent e mem).symm, fun q => ?_, ?_, ?_, rfl, rfl⟩
    · by_cases same : q = r
      · subst same
        simp [Bool.eq_false_iff.mpr queued]
      · simp [same]
    · rw [if_neg fun h => none_ h.1]
    · exact ⟨fun forced => ⟨forced, fun h => none_ h.1⟩, fun h => h.1⟩

/-- The credit of an operation (R31). -/
theorem activationCredit_credited (flagged : Flagged s) (op : PortOperation) :
    Credited op.activates s (activationCredit op s) := by
  have fold : ∀ (rows : List Row) (s : State), Flagged s → Credited rows s (rows.foldl (fun t r => departIfQueued r t) s) := by
    intro rows
    induction rows with
    | nil => exact fun s _ => .of_eq rfl rfl
    | cons r rest ih =>
      intro s flagged
      have first := departIfQueued_credited flagged r
      exact first.trans (ih _ (first.flagged flagged))
  exact fold op.activates s flagged

/-! ### The grant -/

theorem claimantEffects_credited {claim : Claim} {op : PortOperation}
    (granted : descriptor s claim = some op) :
    ∃ rows, (∀ r ∈ rows, r ∈ op.activates) ∧ Credited rows s (claimantEffects claim s) := by
  cases claim with
  | refresh urgent =>
    obtain ⟨e, rest, head, rfl⟩ := refresh_descriptor granted
    refine ⟨[e.row], by simp [PortOperation.activates], ?_⟩
    rw [claimantEffects, takeRefreshHead_eq head]
    have departs := departDue_credited (s := { s with scheduler := { s.scheduler with refreshing := true } }) (r := e.row)
      (by simp [head])
    exact ⟨departs.due, departs.queued, departs.cursor, departs.forced, departs.pending, departs.serial⟩
  | request =>
    obtain ⟨q, rest, head, -⟩ := request_descriptor granted
    rw [claimantEffects, fillAccessRecord_eq head]
    exact ⟨[], nofun, .of_eq rfl rfl⟩
  | close | copy | probe | init => exact ⟨[], nofun, .of_eq rfl rfl⟩

/-- Rows that are credited twice count once. -/
theorem contains_append_of_subset {rows more : List Row} (sub : ∀ r ∈ rows, r ∈ more) (r : Row) :
    (rows ++ more).contains r = more.contains r := by
  rw [Bool.eq_iff_iff]
  simp only [List.contains_eq_mem, List.mem_append, decide_eq_true_iff]
  exact ⟨fun h => h.elim (sub r) id, .inr⟩

theorem grantClaim_credited (flagged : Flagged s) {claim : Claim} {op : PortOperation}
    (granted : descriptor s claim = some op) : Credited op.activates s (grantClaim claim s) := by
  obtain ⟨rows, sub, first⟩ := claimantEffects_credited granted
  have occupied : Credited [] (claimantEffects claim s) (occupyPort op { openRowEffects op (claimantEffects claim s) with
      port := { (openRowEffects op (claimantEffects claim s)).port with hostGrants := grantCount s claim } }) := by
    refine .of_eq ?_ ?_ <;> rw [openRowEffects_eq] <;> rfl
  have before := first.trans occupied
  rw [List.append_nil] at before
  have whole := before.trans (activationCredit_credited (before.flagged flagged) op)
  have same : grantClaim claim s = activationCredit op (occupyPort op { openRowEffects op (claimantEffects claim s) with
      port := { (openRowEffects op (claimantEffects claim s)).port with hostGrants := grantCount s claim } }) := by
    unfold grantClaim
    split <;> simp_all
  rw [← same] at whole
  obtain ⟨due, queued, cursor, forced, pending, serial⟩ := whole
  simp only [contains_append_of_subset sub] at due queued cursor forced
  exact ⟨due, queued, cursor, forced, pending, serial⟩

/-- Settles O24. -/
theorem grantCreditsActivatedRows : Obligations.GrantCreditsActivatedRows := by
  constructor
  · intro op
    cases op with
    | hostAccess target kind column length bytes pageOpen hit => cases hit <;> rfl
    | rowRefresh | rowClose | copyBurst | patternBurst | checkBurst | initCycle => rfl
  · intro s t claim op law run free chosen granted h
    obtain rfl : grantClaim claim s = t := by
      have next : exec .grant s = .next (grantClaim claim s) := by
        show Host.Outcome.next (whenRunning arbitrate s) = _
        rw [whenRunning_of_running run, arbitrate_of_choice free chosen]
      rw [next] at h
      cases h
      rfl
    obtain ⟨-, flagged, -⟩ := law
    have credited := grantClaim_credited flagged granted
    exact ⟨credited.due, credited.queued, credited.cursor, credited.forced⟩

end Sys2Proof.Machine
end

section
/-! PROOFS. Host requests: the end of an access, failed heads, posts and the completion queue. -/

namespace Sys2Proof.Machine

open Sys2Proof

variable {s t u : State}

/-! ### The end of an access -/

/-- The parts of the state that a completion of a HOST ACCESS leaves to the request engine are as before. -/
theorem hostAccessDone_of_operation {decay : Decay} {target : Row} {kind : RequestKind} {column length : Nat}
    {bytes : List Byte} {pageOpen hit : Bool}
    (op : s.port.operation = some (.hostAccess target kind column length bytes pageOpen hit)) :
    hostAccessDone decay s = arbitrate (endAccess
      (readBytes (hostArrayEffect target kind column bytes decay s) target column length)
      (openRowAtCompletion target pageOpen hit (freePort (hostArrayEffect target kind column bytes decay s)))) := by
  unfold hostAccessDone
  split
  · simp_all
  all_goals simp_all

/-- A discarded access changes nothing of the queues (R97). -/
theorem endAccess_of_discarded (data : List Byte) {a : AccessRecord} (access : s.requests.access = some a)
    (discarded : a.discarded = true) : endAccess data s = { s with requests := { s.requests with access := none } } := by
  unfold endAccess
  rw [access]
  exact if_pos discarded

theorem appendCompletion_eq (c : Completion) : appendCompletion c s = withEvents 0x004#10 { s with
    requests := { s.requests with
      completions := s.requests.completions ++ [c]
      cursor := if s.requests.completions = [] then 0 else s.requests.cursor } } := by
  unfold appendCompletion
  rw [raiseEvent_eq_withEvents]
  cases empty : s.requests.completions <;> rfl

/-- A completion joins the CQ and the failed heads of the queue behind it follow, as far as there is room (R85, R92). -/
theorem endFailedHeads_appendCompletion (c : Completion) (rest : List Request) :
    let failed := failedCompletions s.deviceCount (15 - s.requests.completions.length) rest
    endFailedHeads rest (appendCompletion c { s with requests := { s.requests with requests := rest } }) =
      withEvents 0x004#10 { s with
        requests := { s.requests with
          requests := rest.drop failed.length
          completions := s.requests.completions ++ c :: failed
          cursor := if s.requests.completions = [] then 0 else s.requests.cursor } } := by
  intro failed
  have room : 16 - (s.requests.completions ++ [c]).length = 15 - s.requests.completions.length := by
    rw [List.length_append, List.length_singleton]
    omega
  have joined := endFailedHeads_eq (appendCompletion c { s with requests := { s.requests with requests := rest } }) rest rfl
  rw [appendCompletion_eq] at joined ⊢
  dsimp only [withEvents] at joined
  rw [room] at joined
  refine joined.trans ?_
  by_cases none_ : failed = []
  · rw [if_pos none_, none_]
    rfl
  · rw [if_neg none_]
    simp only [List.append_eq_nil_iff, List.cons_ne_nil, and_false, if_false, List.append_assoc, withEvents,
      BitVec.or_assoc, BitVec.or_self]
    rfl

/-- A live access ends the head of the RQ, and failed heads follow (R85, R92). -/
theorem endAccess_of_live (data : List Byte) {a : AccessRecord} {q : Request} {rest : List Request}
    (access : s.requests.access = some a) (live : a.discarded = false) (head : s.requests.requests = q :: rest) :
    let failed := failedCompletions s.deviceCount (15 - s.requests.completions.length) rest
    endAccess data s = withEvents 0x004#10 { s with
      requests := { s.requests with
        access := none
        requests := rest.drop failed.length
        completions := s.requests.completions ++
          { tag := q.tag, status := .ok, redirected := a.redirected, length := q.length,
            data := if q.kind = .read then some data else none } :: failed
        cursor := if s.requests.completions = [] then 0 else s.requests.cursor } } := by
  intro failed
  unfold endAccess
  rw [access]
  dsimp only
  rw [live, if_neg Bool.false_ne_true, endRequest]
  dsimp only
  rw [head]
  dsimp only
  rw [checkHead_eq, if_neg (by simp [liveAccess, appendCompletion])]
  exact endFailedHeads_appendCompletion (s := { s with requests := { s.requests with access := none } }) _ rest

/-- Settles O27. -/
theorem hostAccessCompletionEndsHead : Obligations.HostAccessCompletionEndsHead := by
  intro s decay target kind column length bytes pageOpen hit a run op access
  have next : exec (.hostAccessCompletion decay) s = .next (hostAccessDone decay s) := by
    show Host.Outcome.next (whenRunning (hostAccessDone decay) s) = _
    rw [whenRunning_of_running run]
  rw [next, hostAccessDone_of_operation op]
  generalize stored : hostArrayEffect target kind column bytes decay s = v
  have eq : v = { s with array := v.array } := stored ▸ hostArrayEffect_eq s target kind column bytes decay
  constructor
  · intro discarded
    refine ⟨_, rfl, ?_⟩
    rw [endAccess_of_discarded _ (by rw [eq]; exact access) discarded, eq]
    exact ⟨rfl, rfl⟩
  · intro live q rest head failed
    refine ⟨_, rfl, ?_⟩
    rw [endAccess_of_live (q := q) (rest := rest) _ (by rw [eq]; exact access) live (by rw [eq]; exact head), eq]
    exact ⟨rfl, rfl⟩

/-! ### The array at the end of an access -/

theorem readByte_hostArrayEffect {decay : Decay} (formed : decayWellFormed decay = true) (target r : Row) (kind : RequestKind)
    (column : Nat) (bytes : List Byte) (c : Column) :
    readByte (hostArrayEffect target kind column bytes decay s) r c.val =
      if r = target then
        if kind = .read then ((decay.find? (fun cell => cell.1 == c)).map Prod.snd).getD (readByte s r c.val)
        else if column ≤ c.val ∧ c.val < column + bytes.length then bytes.getD (c.val - column) 0
        else readByte s r c.val
      else readByte s r c.val := by
  have stores : readByte (writeBytes target column bytes s) r c.val =
      if r = target then if column ≤ c.val ∧ c.val < column + bytes.length then bytes.getD (c.val - column) 0
        else readByte s r c.val else readByte s r c.val := by
    rw [readByte_writeBytes s target r column bytes c.isLt, ite_and]
  cases kind with
  | read => exact readByte_applyDecay s target r decay formed c
  | write => exact stores
  | fill => exact stores

theorem deviceState_openRowAtCompletion (target : Row) (pageOpen hit : Bool) (d : DeviceId) :
    deviceState (openRowAtCompletion target pageOpen hit s) d = if d = target.device then
      if pageOpen then
        if hit then { deviceState s target.device with openRow := some target.number }
        else { openRow := some target.number, timer := .running (s.config.rowLimit * 2) 0, closeClaim := false }
      else if hit then { openRow := none, timer := .stopped, closeClaim := false }
      else { deviceState s target.device with openRow := none }
    else deviceState s d := by
  rw [openRowAtCompletion]
  exact deviceState_setDevice s target.device d _

theorem readByte_endAccess (data : List Byte) (r : Row) (c : Nat) : readByte (endAccess data s) r c = readByte s r c := by
  rw [endAccess_frame]
  rfl

theorem deviceState_endAccess (data : List Byte) (d : DeviceId) : deviceState (endAccess data s) d = deviceState s d :=
  deviceState_congr (congrArg ArrayPort.devices (endAccess_port _ data)) d

/-- Settles O28. -/
theorem hostAccessCompletionOnArray : Obligations.HostAccessCompletionOnArray := by
  intro s decay target kind column length bytes pageOpen hit run formed op
  have next : exec (.hostAccessCompletion decay) s = .next (hostAccessDone decay s) := by
    show Host.Outcome.next (whenRunning (hostAccessDone decay) s) = _
    rw [whenRunning_of_running run]
  have stored := fun r c => readByte_hostArrayEffect (s := s) formed target r kind column bytes c
  have eq := hostArrayEffect_eq s target kind column bytes decay
  rw [next, hostAccessDone_of_operation op]
  generalize hostArrayEffect target kind column bytes decay s = v at stored eq ⊢
  have config : v.config = s.config := by rw [eq]
  have device : ∀ d, deviceState (freePort v) d = deviceState s d := fun d => by rw [eq]; rfl
  have devices : ∀ d, deviceState (endAccess (readBytes v target column length)
      (openRowAtCompletion target pageOpen hit (freePort v))) d = _ := fun d =>
    (deviceState_endAccess _ d).trans (deviceState_openRowAtCompletion target pageOpen hit d)
  simp only [device, freePort_config, config] at devices
  refine ⟨_, rfl, fun r c => ?_, ?_, fun d other => ?_, ?_, fun miss opens => ?_, fun hits opens => ?_, fun hits closes => ?_⟩
  · rw [readByte_endAccess]
    exact stored r c
  · rw [endAccess_port]
    rfl
  · rw [devices, if_neg other]
  · rw [devices, if_pos rfl]
    cases pageOpen <;> cases hit <;> rfl
  · subst miss opens
    rw [devices, if_pos rfl]
    exact ⟨rfl, rfl⟩
  · subst hits opens
    rw [devices, if_pos rfl]
    exact ⟨rfl, rfl⟩
  · subst hits closes
    rw [devices, if_pos rfl]
    exact ⟨rfl, rfl⟩

/-! ### Failed heads -/

/-- With room, a failing head completes. -/
theorem failedCompletions_ne_nil {n room : Nat} {q : Request} {rest : List Request} (space : 0 < room)
    (fails : (requestFailure n q).isSome = true) : failedCompletions n room (q :: rest) ≠ [] := by
  obtain ⟨status, failure⟩ := Option.isSome_iff_exists.mp fails
  obtain ⟨more, rfl⟩ := Nat.exists_eq_add_of_lt space
  rw [Nat.zero_add, failedCompletions_cons failure]
  exact List.cons_ne_nil _ _

/-- Settles O29. -/
theorem failedHeadCompletesWithoutPort : Obligations.FailedHeadCompletesWithoutPort := by
  intro s q rest run live head room fails failed
  have some_ : failed ≠ [] := failedCompletions_ne_nil (by omega) fails
  refine ⟨some_, ?_⟩
  show Host.Outcome.next (whenRunning (fun t => arbitrate (checkHead t)) s) = _
  rw [whenRunning_of_running run, checkHead_eq, if_neg (by simp [live]), head, endFailedHeads_eq s (q :: rest) head,
    if_neg some_]

/-! ### Posts -/

theorem exec_rqPost_of_running (value : Word) (run : running s = true) : exec (.rqPost value) s = .next (post s) :=
  congrArg Host.Outcome.next (whenRunning_of_running run _)

theorem running_of_isReady (ready : isReady s = true) : running s = true :=
  running_of_controller (isReady_iff.mp ready)

theorem takesBytes_iff (q : Request) : takesBytes q = true ↔ q.kind = .write ∧ 1 ≤ q.length ∧ q.length ≤ 32 := by
  simp [takesBytes, and_assoc]

/-- The tests of a post in their order (R82). -/
theorem post_of_accepted {kind : RequestKind} (ready : isReady s = true) (room : s.requests.requests.length < 16)
    (named : RequestKind.ofField s.requests.kindField = some kind)
    (staged : takesBytes (requestFromFields s.requests kind) = true →
      s.requests.lengthField.toNat ≤ s.requests.staging.length) :
    post s = if s.requests.requests = [] then arbitrate (checkHead (acceptPost (requestFromFields s.requests kind) s))
      else acceptPost (requestFromFields s.requests kind) s := by
  have short : ¬ (takesBytes (requestFromFields s.requests kind) &&
      decide (s.requests.staging.length < (requestFromFields s.requests kind).length)) = true := by
    rw [Bool.and_eq_true, decide_eq_true_iff]
    exact fun ⟨takes, lacks⟩ => absurd (staged takes) (not_le.mpr lacks)
  have space : ¬ Config.queueEntries ≤ s.requests.requests.length := not_le.mpr room
  unfold post
  rw [if_neg (by simp [ready]), if_neg space, named]
  dsimp only
  rw [if_neg short]
  cases s.requests.requests <;> rfl

theorem acceptPost_eq (kind : RequestKind) :
    let n := s.requests.lengthField.toNat
    acceptPost (requestFromFields s.requests kind) s = { s with
      requests := { s.requests with
        staging := s.requests.staging.drop (if kind = .write ∧ 1 ≤ n ∧ n ≤ 32 then n else 0)
        requests := s.requests.requests ++ [
          { tag := s.requests.tagField, kind := kind
            row := { device := Fin.ofNat 4 s.requests.deviceField.toNat, number := Fin.ofNat 1024 s.requests.rowField.toNat }
            column := s.requests.columnField.toNat, length := n
            fill := if kind = .fill then some s.requests.fillField else none
            data := if kind = .write ∧ 1 ≤ n ∧ n ≤ 32 then some (s.requests.staging.take n) else none }] } } := by
  intro n
  have takes : takesBytes (requestFromFields s.requests kind) = true ↔ kind = .write ∧ 1 ≤ n ∧ n ≤ 32 := takesBytes_iff _
  unfold acceptPost
  by_cases write : kind = .write ∧ 1 ≤ n ∧ n ≤ 32
  · rw [if_pos write, if_pos write, takes.mpr write]
    rfl
  · rw [if_neg write, if_neg write, Bool.eq_false_iff.mpr (mt takes.mp write)]
    rfl

/-- A head that passes its checks, or for whose completion the CQ has no room, stays. -/
theorem checkHead_of_staying {q : Request} (head : s.requests.requests = [q])
    (stays : requestFailure s.deviceCount q = none ∨ 16 ≤ s.requests.completions.length) : checkHead s = s := by
  rw [checkHead_eq]
  split_ifs
  · rfl
  · rw [head, endFailedHeads_eq s [q] head]
    refine if_pos ?_
    obtain passes | full := stays
    · simp [failedCompletions, passes]
    · rw [Nat.sub_eq_zero_of_le full]
      simp [failedCompletions]

/-- A failing head completes where the CQ has room (R84, R85). -/
theorem checkHead_of_failing {q : Request} {status : CompletionStatus} (head : s.requests.requests = [q])
    (live : liveAccess s = false) (room : s.requests.completions.length < 16)
    (failure : requestFailure s.deviceCount q = some status) :
    checkHead s = withEvents 0x004#10 { s with
      requests := { s.requests with
        requests := []
        completions := s.requests.completions ++
          [{ tag := q.tag, status := status, redirected := false, length := q.length, data := none }]
        cursor := if s.requests.completions = [] then 0 else s.requests.cursor } } := by
  have one : failedCompletions s.deviceCount (16 - s.requests.completions.length) [q] = [failedCompletion q status] := by
    obtain ⟨n, hn⟩ : ∃ n, 16 - s.requests.completions.length = n + 1 := ⟨_, (Nat.succ_pred (by omega)).symm⟩
    rw [hn, failedCompletions_cons failure]
    simp [failedCompletions]
  rw [checkHead_eq, if_neg (by simp [live]), head, endFailedHeads_eq s [q] head, one, if_neg (List.cons_ne_nil _ _)]
  rfl

/-- Settles O30. -/
theorem postAccepted : Obligations.PostAccepted := by
  intro s value kind ready room named n taken staged entry posted
  have accepted : acceptPost (requestFromFields s.requests kind) s = posted := acceptPost_eq kind
  have enough : takesBytes (requestFromFields s.requests kind) = true →
      s.requests.lengthField.toNat ≤ s.requests.staging.length := fun takes => by
    have all : taken = n := if_pos ((takesBytes_iff _).mp takes)
    rwa [all] at staged
  rw [exec_rqPost_of_running value (running_of_isReady ready), post_of_accepted ready room named enough, accepted]
  have head : s.requests.requests = [] → posted.requests.requests = [entry] := fun empty => by
    show s.requests.requests ++ [entry] = [entry]
    rw [empty]
    rfl
  refine ⟨fun behind => ?_, fun empty passes => ?_, fun empty live space status failure => ?_, fun empty full fails => ?_⟩
  · rw [if_neg behind]
  · rw [if_pos empty, checkHead_of_staying (head empty) (.inl passes)]
  · rw [if_pos empty, checkHead_of_failing (s := posted) (head empty) live space failure, ← empty]
  · rw [if_pos empty, checkHead_of_staying (s := posted) (head empty) (.inr full)]
    refine ⟨rfl, fun live => ?_⟩
    rw [headCondition_eq (head empty), ← liveAccess_eq]
    rw [if_neg (by rw [show liveAccess posted = liveAccess s from rfl, live]; decide), if_pos fails]

/-- Settles O31. -/
theorem postRejected : Obligations.PostRejected := by
  intro s value run
  rw [exec_rqPost_of_running value run]
  unfold post
  refine ⟨fun unready => ?_, fun ready full => ?_, fun ready room kind => ?_, fun ready room kind low high lacks => ?_⟩
  · rw [if_pos (by simp [unready]), recordHostError_eq_withHostError]
  · have filled : Config.queueEntries ≤ s.requests.requests.length := full
    rw [if_neg (by simp [ready]), if_pos filled, recordHostError_eq_withHostError]
  · have unnamed : RequestKind.ofField s.requests.kindField = none := by
      unfold RequestKind.ofField
      split
      · omega
      · omega
      · omega
      · rfl
    have space : ¬ Config.queueEntries ≤ s.requests.requests.length := not_le.mpr room
    rw [if_neg (by simp [ready]), if_neg space, unnamed, recordHostError_eq_withHostError]
  · have named : RequestKind.ofField s.requests.kindField = some .write := by
      simp [RequestKind.ofField, kind]
    have short : (takesBytes (requestFromFields s.requests .write) &&
        decide (s.requests.staging.length < (requestFromFields s.requests .write).length)) = true := by
      rw [Bool.and_eq_true, takesBytes_iff, decide_eq_true_iff]
      exact ⟨⟨rfl, low, high⟩, lacks⟩
    have space : ¬ Config.queueEntries ≤ s.requests.requests.length := not_le.mpr room
    rw [if_neg (by simp [ready]), if_neg space, named]
    dsimp only
    rw [if_pos short, recordHostError_eq_withHostError]

/-! ### The completion queue -/

theorem headData_eq : headData s = (s.requests.completions.head?.bind Completion.data).getD [] := by
  unfold headData
  cases s.requests.completions <;> rfl

/-- The word at the cursor: two bytes, 0 beyond the data (R94). -/
theorem completionData_toNat : (completionData s).toNat =
    ((headData s).getD s.requests.cursor 0).toNat + 256 * ((headData s).getD (s.requests.cursor + 1) 0).toNat := by
  unfold completionData
  dsimp only
  split_ifs with beyond
  · rw [List.getD_eq_default _ _ beyond, List.getD_eq_default _ _ (by omega)]
    rfl
  · rw [BitVec.toNat_append]
    have low := ((headData s).getD s.requests.cursor 0).isLt
    rw [← Nat.shiftLeft_add_eq_or_of_lt low, Nat.shiftLeft_eq]
    omega

theorem popCompletion_of_head {c : Completion} {rest : List Completion} (head : s.requests.completions = c :: rest) :
    popCompletion s = arbitrate (checkHead { s with requests := { s.requests with completions := rest, cursor := 0 } }) := by
  unfold popCompletion
  split <;> simp_all

/-- The check of the head once the CQ has lost one (R85, R95). -/
theorem checkHead_of_popped (rest : List Completion) :
    let failed := if liveAccess s then [] else failedCompletions s.deviceCount (16 - rest.length) s.requests.requests
    let popped := { s with requests := { s.requests with
      requests := s.requests.requests.drop failed.length, completions := rest ++ failed, cursor := 0 } }
    checkHead { s with requests := { s.requests with completions := rest, cursor := 0 } } =
      if failed = [] then popped else withEvents 0x004#10 popped := by
  intro failed popped
  have stays : failed = [] → { s with requests := { s.requests with completions := rest, cursor := 0 } } = popped := fun none_ => by
    simp only [popped, none_, List.length_nil, List.drop_zero, List.append_nil]
  rw [checkHead_eq]
  by_cases live : liveAccess s = true
  · have none_ : failed = [] := if_pos live
    rw [if_pos none_, ← stays none_]
    exact if_pos live
  · have same : failed = failedCompletions s.deviceCount (16 - rest.length) s.requests.requests := if_neg live
    have ended := endFailedHeads_eq { s with requests := { s.requests with completions := rest, cursor := 0 } } _ rfl
    refine (if_neg live).trans (ended.trans ?_)
    dsimp only
    rw [← same]
    by_cases none_ : failed = []
    · rw [if_pos none_, if_pos none_, stays none_]
    · rw [if_neg none_, if_neg none_, ite_self]

/-- Settles O33. -/
theorem completionDataReadAndPop : Obligations.CompletionDataReadAndPop := by
  refine ⟨fun s run => ?_, fun s low => ?_, fun s value run => ⟨fun empty => ?_, fun c rest head => ?_⟩⟩
  · intro data i
    have read : exec .cqData s = .next (readCompletionData s) := by
      show Host.Outcome.next (if running s then _ else _) = _
      rw [if_pos run]
    refine ⟨readCompletionData s, read, ?_, ?_⟩
    · show (completionData s).toNat = _
      rw [completionData_toNat, headData_eq]
    have cursor : (if (headData s).length ≤ i then i else i + 2) = if i < data.length then i + 2 else i := by
      rw [headData_eq]
      show (if data.length ≤ i then i else i + 2) = _
      split_ifs with beyond within within
      · omega
      · rfl
      · rfl
      · omega
    exact congrArg (fun cursor => { s with
      host := { s.host with readData := completionData s }, requests := { s.requests with cursor := cursor } }) cursor
  · show Host.Outcome.next (if running s then _ else _) = _
    rw [if_neg (by simp [low])]
  · show Host.Outcome.next (whenRunning popCompletion s) = _
    rw [whenRunning_of_running run, popCompletion, empty, recordHostError_eq_withHostError]
  · intro failed popped
    show Host.Outcome.next (whenRunning popCompletion s) = _
    rw [whenRunning_of_running run, popCompletion_of_head head, checkHead_of_popped]

end Sys2Proof.Machine
end

section
/-! PROOFS. Temperature: readings, timeouts and the entry into HOT. -/

namespace Sys2Proof.Machine

open Sys2Proof

variable {s t u v w : State}

/-! ### The entry into HOT -/

theorem SameProbes.bound (same : SameProbes s t) (law : Bound s) : Bound t :=
  law.of_records same.redirects same.deviceCount same.copy same.probes

/-- What an entry into HOT does is told by the probes, the copies, the entries and LOG_READY alone. -/
theorem heatAborted_congr (before : SameProbes s v) (after : SameProbes w u) (aborted : heatAborted v w) : heatAborted s u := by
  unfold heatAborted at *
  simp only [before.contextOf, after.contextOf, before.probes, after.probes, before.copy, after.copy,
    redirectAt_congr before.redirects, redirectAt_congr after.redirects, before.logReady, after.logReady] at aborted ⊢
  exact aborted

theorem Heats.aborted (heats : Heats s u) (cool : s.supervisor.thermal ≠ .hot) (hot : u.supervisor.thermal = .hot) :
    (∀ k, abortable (contextOf u k).state = false) ∧ (probeLaw s → heatAborted s u) := by
  obtain ⟨v, before, after⟩ := heats.heated cool hot
  refine ⟨fun k => ?_, fun law => ?_⟩
  · rw [after.contextOf]
    exact (abortAll_calms (s := v) .thermal).2 k
  · exact heatAborted_congr before after (abortAll_heatAborted (before.bound (probeLaw_iff.mp law).2))

theorem enterThermal_supervisor (new : ThermalState) :
    (enterThermal new s).supervisor = { s.supervisor with thermal := new } := by
  obtain ⟨same, h⟩ | ⟨-, -, h⟩ | ⟨-, -, h⟩ := enterThermal_cases s new <;> rw [h]
  · rw [← same]
  · rfl
  · rw [(abortAll_probeChange _ _).supervisor]
    rfl

/-- THERMAL_CHANGE is raised at a change and only then (R158). -/
theorem enterThermal_thermalChange (new : ThermalState) : (enterThermal new s).host.events.getLsbD 6 =
    (s.host.events.getLsbD 6 || decide (s.supervisor.thermal ≠ new)) := by
  have raised : ∀ t : State, (raiseEvent .thermalChange t).host.events.getLsbD 6 = true := fun t => by
    show (t.host.events ||| EventFlag.thermalChange.word).getLsbD 6 = true
    rw [BitVec.getLsbD_or, show EventFlag.thermalChange.word.getLsbD 6 = true from by decide, Bool.or_true]
  obtain ⟨same, h⟩ | ⟨other, -, h⟩ | ⟨other, -, h⟩ := enterThermal_cases s new <;> rw [h]
  · simp [same]
  · rw [raised]
    simp [other]
  · rw [(abortAll_raises _ .thermal).getLsbD (by decide), raised]
    simp [other]

/-! ### The external-sensor timeout -/

theorem sensorTimeout_supervisor :
    (sensorTimeout s).supervisor = { s.supervisor with window := [], stale := 0, thermal := .hot } :=
  enterThermal_supervisor (s := { s with supervisor := { s.supervisor with window := [], stale := 0 } }) .hot

theorem sensorTimeout_sensorStale : (sensorTimeout s).host.events.getLsbD 7 = true := by
  show (_ ||| EventFlag.sensorStale.word).getLsbD 7 = true
  rw [BitVec.getLsbD_or, show EventFlag.sensorStale.word.getLsbD 7 = true from by decide, Bool.or_true]

theorem sensorTimeout_thermalChange : (sensorTimeout s).host.events.getLsbD 6 =
    (s.host.events.getLsbD 6 || decide (s.supervisor.thermal ≠ .hot)) := by
  have entered := enterThermal_thermalChange (s := { s with supervisor := { s.supervisor with window := [], stale := 0 } }) .hot
  rw [← entered]
  exact (raiseEvent_raises (mask := 0x080#10) .sensorStale (by decide)).getLsbD (by decide)

/-- A timeout from a state that differs in the staleness count and the scheduler alone, and what follows it. -/
theorem sensorTimedOut_of (before : SameProbes s v) (supervisor : { v.supervisor with stale := 0 } = { s.supervisor with stale := 0 })
    (host : v.host = s.host) (after : SameProbes (sensorTimeout v) u)
    (same : u.supervisor = (sensorTimeout v).supervisor) {mask : BitVec 10} (raises : Raises mask (sensorTimeout v) u)
    (other : mask.getLsbD 6 = false) : sensorTimedOut s u := by
  have thermal : v.supervisor.thermal = s.supervisor.thermal := by
    have same := congrArg Supervisor.thermal supervisor
    exact same
  have heats : Heats s u := (Heats.before before thermal sensorTimeout_heats).after after (by rw [same])
  have hot : u.supervisor.thermal = .hot := by rw [same, sensorTimeout_supervisor]
  refine ⟨?_, raises.getLsbD_of_set sensorTimeout_sensorStale, ?_, fun was => ?_, fun cool => heats.aborted cool hot⟩
  · rw [same, sensorTimeout_supervisor]
    exact congrArg (fun x : Supervisor => { x with window := [], thermal := .hot }) supervisor
  · rw [raises.getLsbD other, sensorTimeout_thermalChange, host, thermal]
  · have calm := heats.calm (.inl was)
    exact ⟨calm.probes, calm.copy, calm.redirects⟩

theorem sensorTimeout_sensorTimedOut : sensorTimedOut s (sensorTimeout s) :=
  sensorTimedOut_of (mask := 0) .refl rfl rfl .refl rfl .refl (by decide)

/-! ### A slice expiry -/

theorem expiryPass_of_other (other : (s.scheduler.serial + 1) % 65536 % 16 ≠ 0) :
    expiryPass s = { s with scheduler := (expiryPass s).scheduler } := by
  unfold expiryPass
  dsimp only
  rw [if_neg other]

/-- The supervisor's part of a pass start (R154, R159). -/
theorem expiryPass_of_start (start : (s.scheduler.serial + 1) % 65536 % 16 = 0) :
    expiryPass s = supervisorPassStart { s with scheduler := (expiryPass s).scheduler } := by
  have scheduler := expiryPass_scheduler (s := s)
  rw [if_pos start] at scheduler
  rw [scheduler]
  unfold expiryPass
  dsimp only
  rw [if_pos start]
  rfl

theorem supervisorPassStart_of_timeout (external : s.config.external = true) (old : 3 ≤ s.supervisor.stale) :
    supervisorPassStart s =
      sensorTimeout { s with supervisor := { s.supervisor with stale := s.supervisor.stale + 1 } } := by
  have limit : Config.staleLimit ≤ s.supervisor.stale + 1 := Nat.succ_le_succ old
  unfold supervisorPassStart testSensorTimeout
  rw [if_pos external]
  exact if_pos (by rw [external, decide_eq_true limit]; rfl)

theorem supervisorPassStart_of_external (external : s.config.external = true) (fresh : s.supervisor.stale < 3) :
    supervisorPassStart s = { s with supervisor := { s.supervisor with stale := s.supervisor.stale + 1 } } := by
  have limit : ¬ Config.staleLimit ≤ s.supervisor.stale + 1 := fun h => absurd (Nat.le_of_succ_le_succ h) (not_le.mpr fresh)
  unfold supervisorPassStart testSensorTimeout
  rw [if_pos external]
  exact if_neg (by rw [decide_eq_false limit, Bool.and_false]; decide)

theorem supervisorPassStart_of_internal (internal : s.config.external = false) : supervisorPassStart s =
    { s with supervisor := { s.supervisor with
      conversion := if s.supervisor.conversion = .idle then .converting false else s.supervisor.conversion } } := by
  unfold supervisorPassStart
  rw [if_neg (by simp [internal])]
  split
  · rename_i idle
    rw [if_pos idle]
  · rename_i discard converting
    rw [if_neg (by rw [converting]; nofun)]

/-- A pass start that brings the staleness count to 4 (R159). -/
def ExpiryTimesOut (s : State) : Prop :=
  (s.scheduler.serial + 1) % 65536 % 16 = 0 ∧ s.config.external = true ∧ 3 ≤ s.supervisor.stale

theorem expiryPass_of_timeout (timesOut : ExpiryTimesOut s) : expiryPass s = sensorTimeout { s with
    scheduler := (expiryPass s).scheduler, supervisor := { s.supervisor with stale := s.supervisor.stale + 1 } } := by
  obtain ⟨start, external, old⟩ := timesOut
  conv_lhs => rw [expiryPass_of_start start]
  exact supervisorPassStart_of_timeout external old

/-- Without a timeout an expiry reaches the scheduler and the supervisor alone, beside OVERRUN. -/
theorem expiryPass_of_no_timeout (none_ : ¬ ExpiryTimesOut s) :
    expiryPass s = { s with scheduler := (expiryPass s).scheduler, supervisor := (expiryPass s).supervisor } := by
  by_cases start : (s.scheduler.serial + 1) % 65536 % 16 = 0
  · have pass := expiryPass_of_start start
    by_cases external : s.config.external = true
    · have fresh : s.supervisor.stale < 3 := not_le.mp fun old => none_ ⟨start, external, old⟩
      rw [supervisorPassStart_of_external (s := { s with scheduler := (expiryPass s).scheduler }) external fresh] at pass
      have supervisor := congrArg State.supervisor pass
      rw [supervisor]
      exact pass
    · rw [supervisorPassStart_of_internal (s := { s with scheduler := (expiryPass s).scheduler })
        (Bool.eq_false_iff.mpr external)] at pass
      have supervisor := congrArg State.supervisor pass
      rw [supervisor]
      exact pass
  · have pass := expiryPass_of_other start
    have supervisor := congrArg State.supervisor pass
    rw [supervisor]
    exact pass

theorem expiryOverruns_iff : expiryOverruns s = true ↔ 0 < s.scheduler.pendingSlices ∨
    ∃ e rest, s.scheduler.due = e :: rest ∧ 2 ≤ ((s.scheduler.serial + 1) % 65536 + 65536 - e.stamp) % 65536 := by
  unfold expiryOverruns isOverrun
  rw [Bool.or_eq_true, decide_eq_true_iff]
  refine or_congr_right ?_
  cases s.scheduler.due with
  | nil => simp
  | cons e rest =>
    rw [decide_eq_true_iff]
    constructor
    · exact fun late => ⟨e, rest, rfl, late⟩
    · rintro ⟨_, _, same, late⟩
      cases same
      exact late

theorem takeExpiry_host : (takeExpiry s).host =
    if expiryOverruns s then (withEvents 0x100#10 (expiryPass s)).host else (expiryPass s).host := by
  rw [takeExpiry_eq]
  cases expiryOverruns s <;> rfl

/-- What the expiry adds to the pass start is OVERRUN alone. -/
theorem takeExpiry_raises_of_pass : Raises 0x100#10 (expiryPass s) (takeExpiry s) := by
  have raised : Raises 0x100#10 (expiryPass s) (withEvents 0x100#10 (expiryPass s)) :=
    raiseEvent_raises (mask := 0x100#10) .overrun (by decide)
  by_cases late : expiryOverruns s = true
  · have host := takeExpiry_host (s := s)
    rw [if_pos late] at host
    exact raised.trans (.of_host_eq host)
  · have host := takeExpiry_host (s := s)
    rw [if_neg late] at host
    exact .of_host_eq host

theorem takeExpiry_overrun : (takeExpiry s).host.events.getLsbD 8 =
    (s.host.events.getLsbD 8 || expiryOverruns s) := by
  have pass : (expiryPass s).host.events.getLsbD 8 = s.host.events.getLsbD 8 := by
    by_cases start : (s.scheduler.serial + 1) % 65536 % 16 = 0
    · rw [expiryPass_of_start start]
      exact (supervisorPassStart_raises _).getLsbD (by decide)
    · rw [expiryPass_of_other start]
  rw [takeExpiry_host]
  cases expiryOverruns s with
  | true =>
    show ((expiryPass s).host.events ||| 0x100#10).getLsbD 8 = _
    rw [BitVec.getLsbD_or, show (0x100#10).getLsbD 8 = true from by decide, Bool.or_true, Bool.or_true]
  | false =>
    rw [Bool.or_false]
    exact pass

/-- The supervisor after an expiry that times out nothing (R154, R159). -/
theorem expiryPass_supervisor (start : (s.scheduler.serial + 1) % 65536 % 16 = 0) :
    (s.config.external = false → s.supervisor.conversion = .idle →
      (expiryPass s).supervisor = { s.supervisor with conversion := .converting false }) ∧
    (s.config.external = false → s.supervisor.conversion ≠ .idle → (expiryPass s).supervisor = s.supervisor) ∧
    (s.config.external = true → s.supervisor.stale < 3 →
      (expiryPass s).supervisor = { s.supervisor with stale := s.supervisor.stale + 1 }) := by
  have pass := congrArg State.supervisor (expiryPass_of_start start)
  refine ⟨fun internal idle => ?_, fun internal busy => ?_, fun external fresh => ?_⟩
  · rw [pass, supervisorPassStart_of_internal (s := { s with scheduler := (expiryPass s).scheduler }) internal]
    dsimp only
    rw [if_pos idle]
  · rw [pass, supervisorPassStart_of_internal (s := { s with scheduler := (expiryPass s).scheduler }) internal]
    dsimp only
    rw [if_neg busy]
  · rw [pass, supervisorPassStart_of_external (s := { s with scheduler := (expiryPass s).scheduler }) external fresh]

theorem takeExpiry_supervisor : (takeExpiry s).supervisor = (expiryPass s).supervisor := by
  rw [takeExpiry_eq_expiryPass]

/-- Beside the scheduler and OVERRUN the probes and copies after an expiry are those after its pass start. -/
theorem takeExpiry_sameProbes : SameProbes (expiryPass s) (startSliceTimer (takeExpiry s)) := by
  have flag := (takeExpiry_raises_of_pass (s := s)).getLsbD (i := 4) (by decide)
  have taken := takeExpiry_eq_expiryPass (s := s)
  have probes := congrArg State.probes taken
  have copy := congrArg State.copy taken
  have redirects := congrArg State.redirects taken
  have deviceCount := congrArg State.deviceCount taken
  exact ⟨probes, copy, redirects, deviceCount, flag⟩

theorem takeExpiry_sensorTimedOut (timesOut : ExpiryTimesOut s) : sensorTimedOut s (startSliceTimer (takeExpiry s)) := by
  have pass := expiryPass_of_timeout timesOut
  have raises := takeExpiry_raises_of_pass (s := s)
  have probes := takeExpiry_sameProbes (s := s)
  have supervisor := takeExpiry_supervisor (s := s)
  rw [pass] at raises probes supervisor
  exact sensorTimedOut_of (s := s) (v := { s with
    scheduler := (expiryPass s).scheduler, supervisor := { s.supervisor with stale := s.supervisor.stale + 1 } })
    ⟨rfl, rfl, rfl, rfl, rfl⟩ rfl rfl probes supervisor (mask := 0x100#10) (raises.trans (.of_host_eq rfl)) (by decide)

/-- A taken expiry with the timer anew does all that R57 to R61 say. -/
theorem takeExpiry_expiryTaken : expiryTaken s (startSliceTimer (takeExpiry s)) := by
  have scheduler : (startSliceTimer (takeExpiry s)).scheduler = { s.scheduler with
      sliceTimer := .running ((expiryPass s).scheduler.tbase * 125) 0
      serial := (s.scheduler.serial + 1) % 65536, pass := (expiryPass s).scheduler.pass
      epoch := (expiryPass s).scheduler.epoch, tbase := (expiryPass s).scheduler.tbase
      forced := expiryOverruns s || s.scheduler.forced
      pendingSlices := s.scheduler.pendingSlices + 1
      cursor := if s.scheduler.pendingSlices = 0
        then some (sliceStart ((s.scheduler.serial + 1) % 65536) (expiryPass s).scheduler.pass)
        else s.scheduler.cursor } := by
    rw [startSliceTimer_scheduler, takeExpiry_scheduler]
    rfl
  have passed := expiryPass_scheduler (s := s)
  have change := takeExpiry_passChange s
  have supervisor : (startSliceTimer (takeExpiry s)).supervisor = (expiryPass s).supervisor := takeExpiry_supervisor
  have flag := takeExpiry_overrun (s := s)
  have host := takeExpiry_host (s := s)
  have same := takeExpiry_sameProbes (s := s)
  have overruns := expiryOverruns_iff (s := s)
  unfold expiryTaken
  intro serial pass overrun timesOut
  refine ⟨by rw [scheduler], by rw [scheduler], by rw [scheduler], by rw [scheduler], fun start => ?_, fun other => ?_,
    fun start internal idle => ?_, fun start internal busy => ?_, fun start external fresh => ?_, fun late => ?_,
    fun intime => ?_, fun pending => ?_, fun none_ => ?_, takeExpiry_sensorTimedOut, fun none_ => ?_, by rw [scheduler],
    change.records, change.requests, change.port, change.array, change.config, change.controller, change.deviceCount⟩
  · rw [if_pos start] at passed
    rw [scheduler, passed]
    exact ⟨rfl, rfl, rfl⟩
  · rw [if_neg other] at passed
    rw [scheduler, passed, supervisor, expiryPass_of_other other]
    exact ⟨rfl, rfl, rfl, rfl⟩
  · rw [supervisor]
    exact (expiryPass_supervisor start).1 internal idle
  · rw [supervisor]
    exact (expiryPass_supervisor start).2.1 internal busy
  · rw [supervisor]
    exact (expiryPass_supervisor start).2.2 external fresh
  · rw [overruns.mpr late] at flag
    rw [scheduler, overruns.mpr late]
    exact ⟨rfl, flag.trans (Bool.or_true _)⟩
  · rw [Bool.eq_false_iff.mpr (mt overruns.mp intime)] at flag
    rw [scheduler, Bool.eq_false_iff.mpr (mt overruns.mp intime)]
    exact ⟨rfl, flag.trans (Bool.or_false _)⟩
  · rw [scheduler]
    exact if_neg (by omega)
  · refine ⟨Fin.ofNat 1024 (serial % 16), ?_, ?_⟩
    · rw [Fin.val_ofNat]
      omega
    · rw [scheduler]
      exact if_pos none_
  · have quiet := expiryPass_of_no_timeout none_
    have before : SameProbes s (expiryPass s) := by
      rw [quiet]
      exact ⟨rfl, rfl, rfl, rfl, rfl⟩
    have whole := before.trans same
    refine ⟨whole.probes, whole.copy, whole.redirects, fun late => ?_, fun intime => ?_⟩
    · rw [if_pos (overruns.mpr late), quiet] at host
      exact host
    · rw [if_neg (mt overruns.mp intime), quiet] at host
      exact host

/-! ### The commands -/

theorem exec_sliceTimerExpiry {length elapsed : Nat} (run : running s = true)
    (timer : s.scheduler.sliceTimer = .running length elapsed) : exec .sliceTimerExpiry s = .next (
      if s.scheduler.pendingSlices < 15 then arbitrate (startSliceTimer (takeExpiry s))
      else { s with scheduler := { s.scheduler with sliceTimer := .expired } }) := by
  show Host.Outcome.next (whenRunning sliceExpired s) = _
  rw [whenRunning_of_running run, sliceExpired, timer]
  rfl

/-- Settles O34. -/
theorem sliceTimerExpiry : Obligations.SliceTimerExpiry := by
  intro s length elapsed run timer
  rw [exec_sliceTimerExpiry run timer]
  refine ⟨fun full => ?_, fun room => ⟨_, ?_, takeExpiry_expiryTaken⟩⟩
  · rw [if_neg (by omega)]
  · rw [if_pos room]

theorem releaseHeld_of_held (held : s.scheduler.sliceTimer = .expired) (room : s.scheduler.pendingSlices < 15) :
    releaseHeld s = startSliceTimer (takeExpiry s) := by
  obtain ⟨-, -, eq⟩ | ⟨full, -⟩ := releaseHeld_cases (s := s)
  · exact eq
  · exact absurd (full held) (not_le.mpr room)

/-- FORCED may clear just where no slice is pending and no entry is urgent (R73). -/
theorem forcedMayClear_iff : forcedMayClear s = true ↔
    s.scheduler.pendingSlices = 0 ∧ ∀ e ∈ s.scheduler.due, e.stamp = s.scheduler.serial := by
  simp [forcedMayClear, isUrgent, and_comm]

theorem testForced_of_clear (clear : forcedMayClear s = true) :
    testForced s = { s with scheduler := { s.scheduler with forced := false } } := by
  rw [testForced_eq, clear, Bool.not_true, Bool.and_false]

theorem testForced_of_stay (stay : forcedMayClear s = false) : testForced s = s := by
  rw [testForced_eq, stay, Bool.not_false, Bool.and_true]

theorem testUnwind_of_ended (resetting : s.controller = some .resetting) (empty : s.copy.queue = [])
    (spares : ∀ p ∈ s.redirects, p.2.state = .spareCopying ∨ p.2.state = .spareActive) :
    testUnwind s = withEvents 0x002#10 { s with controller := some .ready } := by
  have ended : unwindEnded s = true := by
    have home : s.redirects.all (fun p => !p.2.state.isPark) = true := List.all_eq_true.mpr fun p mem => by
      obtain spare | spare := spares p mem <;> rw [spare] <;> rfl
    rw [unwindEnded, resetting, empty, home]
    rfl
  rw [testUnwind, if_pos ended, raiseEvent_eq_withEvents]
  rfl

/-- Settles O35. -/
theorem heldExpiryForcedClearAndUnwindEnd : Obligations.HeldExpiryForcedClearAndUnwindEnd := by
  refine ⟨fun s run held room => ⟨_, ?_, takeExpiry_expiryTaken⟩, fun s run => ?_, fun s resetting empty spares => ?_⟩
  · show Host.Outcome.next (whenRunning (fun t => arbitrate (releaseHeld t)) s) = _
    rw [whenRunning_of_running run, releaseHeld_of_held held room]
  · have next : exec .forcedClear s = .next (arbitrate (testForced s)) := by
      show Host.Outcome.next (whenRunning (fun t => arbitrate (testForced t)) s) = _
      rw [whenRunning_of_running run]
    rw [next]
    constructor
    · intro none_ current
      rw [testForced_of_clear (forcedMayClear_iff.mpr ⟨none_, current⟩)]
    · intro stays
      rw [testForced_of_stay (Bool.eq_false_iff.mpr fun clear => ?_)]
      obtain ⟨none_, current⟩ := forcedMayClear_iff.mp clear
      obtain pending | ⟨e, mem, urgent⟩ := stays
      · omega
      · exact urgent (current e mem)
  · show Host.Outcome.next (whenRunning (fun t => arbitrate (testUnwind t)) s) = _
    rw [whenRunning_of_running (running_of_controller resetting), testUnwind_of_ended resetting empty spares]

/-- Settles O49. -/
theorem externalSensorTimeout : Obligations.ExternalSensorTimeout := by
  refine ⟨fun s run external old => ⟨_, ?_, sensorTimeout_sensorTimedOut⟩,
    fun s length elapsed run external old timer room start => ⟨_, ?_, takeExpiry_sensorTimedOut ⟨start, external, old.ge⟩⟩⟩
  · show Host.Outcome.next (whenRunning (fun t => arbitrate (testSensorTimeout t)) s) = _
    have limit : Config.staleLimit ≤ s.supervisor.stale := old
    rw [whenRunning_of_running run, testSensorTimeout, if_pos (by rw [external, decide_eq_true limit]; rfl)]
  · rw [exec_sliceTimerExpiry run timer, if_pos room]

end Sys2Proof.Machine
end

section
/-! PROOFS. Readings and configuration writes. -/

namespace Sys2Proof.Machine

open Sys2Proof

variable {s t u v : State}

/-- What a write to CMD does where its body accepts (R170). -/
theorem takeCommand_of_accepted {code : Word} {body : State → Verdict} (ready : isReady s = true)
    (verdict : body { s with host := { s.host with command := code } } = .accepted t) :
    takeCommand code body s = arbitrate (setCommandStatus .accepted t) := by
  obtain ⟨unready, -⟩ | ⟨-, refusal, refused, -⟩ | ⟨-, other, accepted, eq⟩ := takeCommand_cases s code body
  · exact absurd ready (by rw [unready]; decide)
  · rw [verdict] at refused
    cases refused
  · rw [verdict] at accepted
    cases accepted
    exact eq

/-! ### Readings -/

/-- The window after a reading (R156). -/
def windowWith (reading : Int) (window : List Int) : List Int :=
  (if window.length < 4 then window else window.drop 1) ++ [reading]

/-- The thermal state after a reading (R157). -/
def thermalWith (reading : Int) (s : State) : ThermalState :=
  if (windowWith reading s.supervisor.window).length < 4 then s.supervisor.thermal
  else nextThermal s.config (windowMean (windowWith reading s.supervisor.window)) s.supervisor.thermal

theorem readingArrives_eq (reading : Int) : readingArrives reading s = enterThermal (thermalWith reading s) { s with
    supervisor := { s.supervisor with
      window := windowWith reading s.supervisor.window, lastReading := some reading } } := by
  have windows : (if s.supervisor.window.length < Config.windowReadings then s.supervisor.window
      else s.supervisor.window.drop 1) ++ [reading] = windowWith reading s.supervisor.window := rfl
  unfold readingArrives thermalWith
  rw [windows]
  dsimp only
  by_cases short : (windowWith reading s.supervisor.window).length < 4
  · have few : (windowWith reading s.supervisor.window).length < Config.windowReadings := short
    rw [if_pos few, if_pos short]
    exact (if_pos rfl).symm
  · have full : ¬ (windowWith reading s.supervisor.window).length < Config.windowReadings := short
    rw [if_neg full, if_neg short]

/-- The mean is the quotient rounded down (R156). -/
theorem windowMean_eq {window : List Int} {mean : Int} (low : 4 * mean ≤ window.sum) (high : window.sum < 4 * mean + 4) :
    windowMean window = mean := by
  unfold windowMean
  omega

theorem nextThermal_hot_iff (c : Configuration) (mean : Int) (old : ThermalState) : nextThermal c mean old = .hot ↔
    (old = .hot ∧ c.hotEnter - c.hysteresis < mean) ∨ (old ≠ .hot ∧ c.hotEnter ≤ mean) := by
  cases old <;> unfold nextThermal <;> dsimp only <;> split_ifs <;> simp <;> omega

theorem nextThermal_normal_iff (c : Configuration) (mean : Int) (old : ThermalState) : nextThermal c mean old = .normal ↔
    (old = .normal ∧ mean < c.warmEnter ∧ mean < c.hotEnter) ∨
      (old = .warm ∧ mean < c.hotEnter ∧ mean ≤ c.warmEnter - c.hysteresis) ∨
      (old = .hot ∧ mean ≤ c.hotEnter - c.hysteresis ∧ mean ≤ c.warmEnter - c.hysteresis) := by
  cases old <;> unfold nextThermal <;> dsimp only <;> split_ifs <;> simp <;> omega

/-- A reading delivered (R154 to R158): `u` is what it leaves, from the state `s` before the event. -/
def ReadingDelivered (s u : State) (measured : Int) : Prop :=
  let reading := max (-40) (min 125 measured)
  let window := (if s.supervisor.window.length < 4 then s.supervisor.window else s.supervisor.window.drop 1) ++ [reading]
  let old := s.supervisor.thermal
  let new := u.supervisor.thermal
  u.supervisor.window = window ∧ u.supervisor.lastReading = some reading ∧
  (window.length < 4 → new = old) ∧
  (4 ≤ window.length → ∀ mean : Int, 4 * mean ≤ window.sum → window.sum < 4 * mean + 4 →
    (new = .hot ↔ (old = .hot ∧ s.config.hotEnter - s.config.hysteresis < mean) ∨
      (old ≠ .hot ∧ s.config.hotEnter ≤ mean)) ∧
    (new = .normal ↔ (old = .normal ∧ mean < s.config.warmEnter ∧ mean < s.config.hotEnter) ∨
      (old = .warm ∧ mean < s.config.hotEnter ∧ mean ≤ s.config.warmEnter - s.config.hysteresis) ∨
      (old = .hot ∧ mean ≤ s.config.hotEnter - s.config.hysteresis ∧
        mean ≤ s.config.warmEnter - s.config.hysteresis))) ∧
  (new ≠ old → u.host.events.getLsbD 6 = true) ∧ (new = old → u.host.events.getLsbD 6 = s.host.events.getLsbD 6) ∧
  (new = old ∨ new ≠ .hot → u.probes = s.probes ∧ u.copy = s.copy ∧ u.redirects = s.redirects) ∧
  (new ≠ old → new = .hot → (∀ k, abortable (contextOf u k).state = false) ∧ (probeLaw s → heatAborted s u)) ∧
  u.records = s.records ∧ u.scheduler = s.scheduler ∧ u.requests = s.requests ∧ u.port = s.port

theorem readingArrives_supervisor (reading : Int) : (readingArrives reading s).supervisor = { s.supervisor with
    window := windowWith reading s.supervisor.window, lastReading := some reading, thermal := thermalWith reading s } := by
  rw [readingArrives_eq, enterThermal_supervisor]

theorem readingArrives_thermalChange (reading : Int) : (readingArrives reading s).host.events.getLsbD 6 =
    (s.host.events.getLsbD 6 || decide (s.supervisor.thermal ≠ thermalWith reading s)) := by
  rw [readingArrives_eq, enterThermal_thermalChange]

/-- The state in which a reading arrives: CMD written, a conversion ended. -/
def readingState (command : Word) (conversion : Conversion) (s : State) : State :=
  { s with host := { s.host with command := command }, supervisor := { s.supervisor with conversion := conversion } }

/-- The state once a reading has arrived: CMD_STATUS and the staleness count written. -/
def readingEnd (status : CommandStatus) (stale : Nat) (s : State) : State :=
  { s with host := { s.host with status := status }, supervisor := { s.supervisor with stale := stale } }

theorem readingDelivered (measured : Int) (command : Word) (conversion : Conversion) (status : CommandStatus) (stale : Nat) :
    ReadingDelivered s (readingEnd status stale (readingArrives (clampReading measured) (readingState command conversion s)))
      measured := by
  have change := readingArrives_passChange (readingState command conversion s) (clampReading measured)
  have scheduler := (readingArrives_keepsScheduler (s := readingState command conversion s) (clampReading measured)).1
  have arrived := readingArrives_supervisor (s := readingState command conversion s) (clampReading measured)
  have flag := readingArrives_thermalChange (s := readingState command conversion s) (clampReading measured)
  have taken : Heats s (readingArrives (clampReading measured) (readingState command conversion s)) :=
    .before (t := readingState command conversion s) ⟨rfl, rfl, rfl, rfl, rfl⟩ rfl (readingArrives_heats _)
  have same : thermalWith (clampReading measured) (readingState command conversion s) =
    thermalWith (clampReading measured) s := rfl
  rw [same] at arrived flag
  generalize readingArrives (clampReading measured) (readingState command conversion s) = t at *
  have heats : Heats s (readingEnd status stale t) := taken.after ⟨rfl, rfl, rfl, rfl, rfl⟩ rfl
  have new : (readingEnd status stale t).supervisor.thermal = thermalWith (clampReading measured) s :=
    congrArg Supervisor.thermal arrived
  have flags : (readingEnd status stale t).host.events.getLsbD 6 =
    (s.host.events.getLsbD 6 || decide (s.supervisor.thermal ≠ thermalWith (clampReading measured) s)) := flag
  unfold ReadingDelivered
  intro reading window old
  rw [new, flags]
  refine ⟨congrArg Supervisor.window arrived, congrArg Supervisor.lastReading arrived, fun short => if_pos short,
    fun full mean low high => ?_, fun other => ?_, fun still => ?_, fun calm => ?_, fun other hot => ?_,
    change.records, scheduler, change.requests, change.port⟩
  · have next : thermalWith (clampReading measured) s = nextThermal s.config mean s.supervisor.thermal := by
      have long : ¬ (windowWith (clampReading measured) s.supervisor.window).length < 4 := not_lt.mpr full
      have same : windowMean (windowWith (clampReading measured) s.supervisor.window) = mean := windowMean_eq low high
      rw [thermalWith, if_neg long, same]
    rw [next]
    exact ⟨nextThermal_hot_iff _ _ _, nextThermal_normal_iff _ _ _⟩
  · rw [decide_eq_true (Ne.symm other), Bool.or_true]
  · rw [decide_eq_false fun other => other (Eq.symm still), Bool.or_false]
  · have same := heats.calm (by
      rw [new]
      obtain still | cool := calm
      · rw [still]
        exact em _
      · exact .inr cool)
    exact ⟨same.probes, same.copy, same.redirects⟩
  · exact heats.aborted (fun was => other (hot.trans was.symm)) (new.trans hot)

/-- Settles O48. -/
theorem readingsMoveThermalState : Obligations.ReadingsMoveThermalState := by
  refine ⟨fun s measured run converting => ?_, fun s measured run discards => ?_, fun s ready external => ?_⟩
  · have next : exec (.conversionCompletion measured) s =
        .next (arbitrate (readingArrives (clampReading measured) (readingState s.host.command .idle s))) := by
      show Host.Outcome.next (whenRunning (conversionDone measured) s) = _
      rw [whenRunning_of_running run, conversionDone, converting]
      rfl
    have arrived := readingArrives_supervisor (s := readingState s.host.command .idle s) (clampReading measured)
    have delivered := readingDelivered (s := s) measured s.host.command .idle
      (readingArrives (clampReading measured) (readingState s.host.command .idle s)).host.status
      (readingArrives (clampReading measured) (readingState s.host.command .idle s)).supervisor.stale
    exact ⟨_, next, by rw [arrived]; rfl, by rw [arrived]; rfl, delivered⟩
  · show Host.Outcome.next (whenRunning (conversionDone measured) s) = _
    rw [whenRunning_of_running run, conversionDone, discards]
    rfl
  · have arrived := readingArrives_supervisor (s := readingState 8 s.supervisor.conversion s)
      (clampReading s.host.args.q0.toInt)
    have delivered := readingDelivered (s := s) s.host.args.q0.toInt 8 s.supervisor.conversion .accepted 0
    have next : exec .tempSupply s = .next (arbitrate (readingEnd .accepted 0
        (readingArrives (clampReading s.host.args.q0.toInt) (readingState 8 s.supervisor.conversion s)))) := by
      show Host.Outcome.next (whenRunning (takeCommand 8 tempSupplyBody) s) = _
      rw [whenRunning_of_running (running_of_isReady ready), takeCommand_of_accepted ready (if_pos external)]
      rfl
    exact ⟨_, next, rfl, rfl, by
      show (readingArrives (clampReading s.host.args.q0.toInt) (readingState 8 s.supervisor.conversion s)).supervisor.conversion = _
      rw [arrived]; rfl, delivered⟩

/-! ### Configuration writes -/

theorem bits_low (w : Word) (width : Nat) : bits w 0 width = w.toNat % 2 ^ width := by
  simp [bits]

theorem thresholdInRange_iff (t : Int) : thresholdInRange t = true ↔ -40 ≤ t ∧ t ≤ 125 := by
  simp [thresholdInRange]

/-- A write of CFG_WARM or CFG_HOT: the test is R160's. -/
theorem ite_threshold {α : Type} {t : Int} {P : Prop} [Decidable P] (held refused : α) :
    (if (thresholdInRange t && decide P) = true then held else refused) =
      if -40 ≤ t ∧ t ≤ 125 ∧ P then held else refused := by
  refine if_congr ?_ rfl rfl
  rw [Bool.and_eq_true, thresholdInRange_iff, decide_eq_true_iff, and_assoc]

/-- A change of sensor mode empties the window and leaves the part HOT (R153). -/
theorem changeSensorMode_heated (external : Bool) (config : Configuration) :
    let u := changeSensorMode external { s with config := config }
    u.config = { config with external := external } ∧
    u.supervisor = { conversion := match s.supervisor.conversion with
                       | .idle => .idle
                       | .converting _ => .converting true
                     window := [], thermal := .hot, stale := 0, lastReading := s.supervisor.lastReading } ∧
    (u.host.events.getLsbD 6 = (s.host.events.getLsbD 6 || decide (s.supervisor.thermal ≠ .hot))) ∧
    (s.supervisor.thermal ≠ .hot → (∀ k, abortable (contextOf u k).state = false) ∧ (probeLaw s → heatAborted s u)) := by
  intro u
  have heats : Heats s u := .before (t := sensorChanged external { s with config := config })
    ⟨rfl, rfl, rfl, rfl, rfl⟩ rfl (enterThermal_heats .hot)
  have supervisor : u.supervisor = { (sensorChanged external { s with config := config }).supervisor with thermal := .hot } :=
    enterThermal_supervisor .hot
  refine ⟨(enterThermal_passChange (sensorChanged external { s with config := config }) .hot).config, ?_,
    enterThermal_thermalChange (s := sensorChanged external { s with config := config }) .hot, fun cool => ?_⟩
  · rw [supervisor]
    cases conversion : s.supervisor.conversion <;> simp only [sensorChanged, markDiscard, conversion]
  · exact heats.aborted cool (congrArg Supervisor.thermal supervisor)

/-- Settles O52. -/
theorem configurationWrites : Obligations.ConfigurationWrites := by
  intro s v run
  have next : ∀ effect : State → State, Host.Outcome.next (whenRunning effect s) =
      (Host.Outcome.next (effect s) : Host.Outcome State Fault Refusal) := fun effect => by
    rw [whenRunning_of_running run]
  have mode : bits v 0 4 = v.toNat % 16 := bits_low v 4
  have modeWrite : exec (.cfgModeWrite v) s = .next (writeMode v s) := next (writeMode v)
  refine ⟨next (writeTbase v), (next (writePage v)).trans ?_, next (writeEpochDivider v), next (writeAgeLimit v),
    (next (writeWarm v)).trans ?_, (next (writeHot v)).trans ?_, fun zero => ?_, fun some_ same => ?_, fun some_ other => ?_⟩
  · rw [writePage, bits_low]
    rfl
  · rw [writeWarm, ite_threshold]
    rfl
  · rw [writeHot, ite_threshold]
    rfl
  · rw [modeWrite, writeMode, if_pos (mode.trans zero)]
    rfl
  · rw [modeWrite, writeMode, if_neg (by rwa [mode])]
    dsimp only
    rw [if_pos same, mode]
  · refine ⟨_, ?_, changeSensorMode_heated (v.getLsbD 8)
      { s.config with hysteresis := v.toNat % 16, autoRetire := v.getLsbD 12 }⟩
    rw [modeWrite, writeMode, if_neg (by rwa [mode])]
    dsimp only
    rw [if_neg other, mode]

end Sys2Proof.Machine
end

section
/-! PROOFS. The visit of a row: the age test, the due decision, the entry, and where the cursor goes (R62 to R68). -/

namespace Sys2Proof.Machine
open Sys2Proof

variable {s : State}

/-! ### The age test (R66) -/

/-- A record at a visit is PROFILED and at or past the age limit. -/
def ageDemotes (row : Row) (s : State) : Bool :=
  decide ((recordOf s row).status = .profiled ∧ s.config.ageLimit ≤ recordAge s.scheduler.epoch (recordOf s row))

/-- The record of a row as its age test leaves it. -/
def agedRecord (row : Row) (s : State) : Record :=
  if ageDemotes row s then
    { recordOf s row with status := .unprofiled, cls := 0, margin := 0, stamp := none, spare := none }
  else recordOf s row

theorem ageDemotion_host (row : Row) :
    (ageDemotion row s).host = (if ageDemotes row s then withEvents 0x200#10 s else s).host := by
  unfold ageDemotes
  obtain ⟨profiled, old, eq⟩ | ⟨keeps, eq⟩ := ageDemotion_cases s row <;> rw [eq]
  · rw [decide_eq_true ⟨profiled, old⟩]
    rfl
  · rw [decide_eq_false (by rwa [not_and_or, not_le])]
    rfl

theorem recordOf_ageDemotion (row q : Row) :
    recordOf (ageDemotion row s) q = if q = row then agedRecord row s else recordOf s q := by
  unfold agedRecord ageDemotes
  obtain ⟨profiled, old, eq⟩ | ⟨keeps, eq⟩ := ageDemotion_cases s row <;> rw [eq]
  · rw [decide_eq_true ⟨profiled, old⟩]
    exact recordOf_setRecord ..
  · rw [decide_eq_false (by rwa [not_and_or, not_le])]
    by_cases at_ : q = row
    · rw [if_pos at_, at_]
      rfl
    · rw [if_neg at_]

theorem ageDemotion_frame (row : Row) :
    ageDemotion row s = { s with host := (ageDemotion row s).host, records := (ageDemotion row s).records } := by
  obtain ⟨host, records, eq⟩ := ageDemotion_eq (s := s) row
  rw [eq]

theorem ageDemotes_event (row : Row) :
    (ageDemotes row s = true → (ageDemotion row s).host.events.getLsbD 9 = true) ∧
      (ageDemotes row s = false → (ageDemotion row s).host = s.host) := by
  rw [ageDemotion_host]
  cases ageDemotes row s with
  | true =>
    refine ⟨fun _ => ?_, nofun⟩
    show (s.host.events ||| 0x200#10).getLsbD 9 = true
    rw [BitVec.getLsbD_or, show (0x200#10).getLsbD 9 = true by decide, Bool.or_true]
  | false => exact ⟨nofun, fun _ => rfl⟩

/-! ### The due decision and the entry (R64, R65, R67) -/

/-- The row of a visit is due and has no entry yet. -/
def visitWants (c : ScanCursor) (s : State) : Bool :=
  isDue s.supervisor.thermal c.pass c.visited (agedRecord c.visited s) && !(agedRecord c.visited s).queued

/-- The state of a visit before the cursor moves: the age test is made and the row has its entry where there is room. -/
def decidedVisit (c : ScanCursor) (s : State) : State :=
  if visitWants c s && !decide (512 ≤ s.scheduler.due.length) then
    appendDue c.visited c.serial (ageDemotion c.visited s)
  else ageDemotion c.visited s

theorem recordOf_decidedVisit_row (c : ScanCursor) :
    recordOf (decidedVisit c s) c.visited = { agedRecord c.visited s with
      queued := (agedRecord c.visited s).queued || (visitWants c s && !decide (512 ≤ s.scheduler.due.length)) } := by
  unfold decidedVisit
  split
  · rename_i appends
    rw [recordOf_appendDue, if_pos rfl, recordOf_ageDemotion, if_pos rfl, appends, Bool.or_true]
  · rename_i stays
    rw [recordOf_ageDemotion, if_pos rfl, Bool.eq_false_iff.mpr stays, Bool.or_false]

theorem recordOf_decidedVisit_other (c : ScanCursor) {q : Row} (other : q ≠ c.visited) :
    recordOf (decidedVisit c s) q = recordOf s q := by
  unfold decidedVisit
  split
  · rw [recordOf_appendDue, if_neg other, recordOf_ageDemotion, if_neg other]
  · rw [recordOf_ageDemotion, if_neg other]

theorem decidedVisit_due (c : ScanCursor) :
    (decidedVisit c s).scheduler.due = if visitWants c s && !decide (512 ≤ s.scheduler.due.length)
      then s.scheduler.due ++ [{ row := c.visited, stamp := c.serial }] else s.scheduler.due := by
  unfold decidedVisit
  rw [ageDemotion_frame]
  split <;> rfl

theorem decidedVisit_frame (c : ScanCursor) :
    decidedVisit c s = { s with
      records := (decidedVisit c s).records, host := (ageDemotion c.visited s).host
      scheduler := { s.scheduler with due := (decidedVisit c s).scheduler.due } } := by
  unfold decidedVisit
  split
  · conv_lhs => rw [ageDemotion_frame]
    conv_rhs => rw [ageDemotion_frame]
    rfl
  · conv_lhs => rw [ageDemotion_frame]
    rw [ageDemotion_frame]

/-- A visit decides, and then pauses on a full queue or moves the cursor on. -/
theorem visitRow_eq (c : ScanCursor) :
    visitRow c s = if visitWants c s && decide (512 ≤ s.scheduler.due.length)
      then { decidedVisit c s with
        scheduler := { (decidedVisit c s).scheduler with cursor := some { c with paused := true } } }
      else advanceScan c (decidedVisit c s) := by
  have thermal : (ageDemotion c.visited s).supervisor = s.supervisor := by rw [ageDemotion_frame]
  have scheduler : (ageDemotion c.visited s).scheduler = s.scheduler := by rw [ageDemotion_frame]
  have cases_ := visitRow_cases (s := s) c
  rw [thermal, recordOf_ageDemotion, if_pos rfl] at cases_
  unfold decidedVisit visitWants
  obtain ⟨due, queued, full, eq⟩ | ⟨due, queued, room, eq⟩ | ⟨not_, eq⟩ := cases_ <;> rw [eq]
  · rw [due, queued, decide_eq_true full]
    exact congrArg (fun scheduler => { ageDemotion c.visited s with
      scheduler := { scheduler with cursor := some { c with paused := true } } }) scheduler.symm
  · rw [due, queued, decide_eq_false (Nat.not_le.mpr room)]
    rfl
  · rw [not_]
    rfl

/-! ### Where the cursor goes, and the end of a scan (R63, R68) -/

theorem takeExpiry_due : (takeExpiry s).scheduler.due = s.scheduler.due := by
  rw [takeExpiry_scheduler]

theorem endScan_due (c : ScanCursor) : (endScan c s).scheduler.due = s.scheduler.due := by
  rw [endScan_eq, testForced_eq]
  obtain ⟨-, -, eq⟩ | ⟨-, eq⟩ := releaseHeld_cases (s := scanEnded c s) <;> rw [eq]
  · exact takeExpiry_due
  · rfl

theorem advanceScan_due (c : ScanCursor) : (advanceScan c s).scheduler.due = s.scheduler.due := by
  obtain ⟨-, eq⟩ | ⟨-, -, eq⟩ | ⟨-, -, eq⟩ := advanceScan_cases (s := s) c <;> rw [eq]
  exact endScan_due c

theorem advanceScan_records (c : ScanCursor) : (advanceScan c s).records = s.records := by
  obtain ⟨_, _, _, _, _, _, _, _, _, _, eq⟩ := advanceScan_passChange s c
  rw [eq]

/-- A scan that ends while the slice timer runs counts its slice, moves to the next or goes idle, and tests FORCED. -/
theorem endScan_of_running (c : ScanCursor) (runs : s.scheduler.sliceTimer ≠ .expired) :
    endScan c s = { s with
      scheduler := { (scanEnded c s).scheduler with
        forced := s.scheduler.forced && !forcedMayClear (scanEnded c s) } } := by
  have stays : releaseHeld (scanEnded c s) = scanEnded c s := if_neg fun h => runs h.1
  rw [endScan_eq, stays, testForced_eq]
  rfl

/-- A scan that ends at a count of 15 takes the expiry held back (R61); the slice just begun keeps FORCED. -/
theorem endScan_of_held (c : ScanCursor) (held : s.scheduler.sliceTimer = .expired) (full : s.scheduler.pendingSlices = 15) :
    endScan c s = startSliceTimer (takeExpiry (scanEnded c s)) := by
  have count : (scanEnded c s).scheduler.pendingSlices = 14 := by
    show s.scheduler.pendingSlices - 1 = 14
    rw [full]
  have room : (scanEnded c s).scheduler.pendingSlices < 15 := by
    rw [count]
    decide
  rw [endScan_eq, releaseHeld_of_held (s := scanEnded c s) held room]
  apply testForced_of_stay
  have pending : (startSliceTimer (takeExpiry (scanEnded c s))).scheduler.pendingSlices = 15 := by
    rw [startSliceTimer_scheduler, takeExpiry_scheduler]
    show (scanEnded c s).scheduler.pendingSlices + 1 = 15
    rw [count]
  refine Bool.eq_false_iff.mpr fun clear => ?_
  have zero := (forcedMayClear_iff.mp clear).1
  rw [pending] at zero
  exact absurd zero (by decide)

theorem exec_scanVisit {c : ScanCursor} (run : running s = true) (cursor : s.scheduler.cursor = some c)
    (unpaused : c.paused = false) : exec .scanVisit s = .next (arbitrate (visitRow c s)) := by
  show Host.Outcome.next (whenRunning scan s) = _
  rw [whenRunning_of_running run]
  unfold scan
  rw [cursor]
  dsimp only
  rw [unpaused]
  rfl

/-- Beside the rows and the host, a scan that has not just ended a held wait leaves a state as it was but for the cursor, the
count and FORCED. -/
theorem advanceScan_frame (c : ScanCursor)
    (case_ : s.scheduler.sliceTimer ≠ .expired ∨ ¬ (1024 ≤ c.row.val + 16 ∧ s.deviceCount ≤ c.device.val + 1)) :
    advanceScan c s = { s with
      scheduler := { s.scheduler with
        cursor := (advanceScan c s).scheduler.cursor, pendingSlices := (advanceScan c s).scheduler.pendingSlices
        forced := (advanceScan c s).scheduler.forced } } := by
  obtain ⟨-, eq⟩ | ⟨-, -, eq⟩ | ⟨last, end_, eq⟩ := advanceScan_cases (s := s) c <;> rw [eq]
  rw [endScan_of_running c (case_.resolve_right fun more => more ⟨last, end_⟩)]
  rfl

theorem advanceScan_of_row (c : ScanCursor) (row : c.row.val + 16 < 1024) : advanceScan c s = { s with
    scheduler := { s.scheduler with
      cursor := some { c with row := Fin.ofNat 1024 (c.row.val + 16), paused := false } } } := by
  obtain ⟨-, eq⟩ | ⟨last, -, -⟩ | ⟨last, -, -⟩ := advanceScan_cases (s := s) c
  · exact eq
  · omega
  · omega

theorem advanceScan_of_device (c : ScanCursor) (last : 1024 ≤ c.row.val + 16) (device : c.device.val + 1 < s.deviceCount) :
    advanceScan c s = { s with
      scheduler := { s.scheduler with
        cursor := some { c with
          device := Fin.ofNat 4 (c.device.val + 1), row := Fin.ofNat 1024 (c.serial % 16), paused := false } } } := by
  obtain ⟨row, -⟩ | ⟨-, -, eq⟩ | ⟨-, end_, -⟩ := advanceScan_cases (s := s) c
  · omega
  · exact eq
  · omega

theorem advanceScan_of_end (c : ScanCursor) (last : 1024 ≤ c.row.val + 16) (device : s.deviceCount ≤ c.device.val + 1) :
    advanceScan c s = endScan c s := by
  obtain ⟨row, -⟩ | ⟨-, more, -⟩ | ⟨-, -, eq⟩ := advanceScan_cases (s := s) c
  · omega
  · omega
  · exact eq

/-- What a visit leaves of the rows, the due queue and AGE_DEMOTE, wherever the cursor goes. -/
structure Visited (c : ScanCursor) (s u : State) : Prop where
  here : recordOf u c.visited = recordOf (decidedVisit c s) c.visited
  other : ∀ r, r ≠ c.visited → recordOf u r = recordOf s r
  due : u.scheduler.due = (decidedVisit c s).scheduler.due
  ageDemote : ageDemotes c.visited s = true → u.host.events.getLsbD 9 = true
  noDemote : ageDemotes c.visited s = false → u.host.events.getLsbD 9 = s.host.events.getLsbD 9

theorem visitRow_visited (c : ScanCursor) : Visited c s (visitRow c s) := by
  have host : (decidedVisit c s).host = (ageDemotion c.visited s).host := by rw [decidedVisit_frame]
  obtain ⟨raised, kept⟩ := ageDemotes_event (s := s) c.visited
  have moved : ∀ u : State, u.records = (decidedVisit c s).records →
      u.scheduler.due = (decidedVisit c s).scheduler.due → Raises 0x1D0#10 (decidedVisit c s) u → Visited c s u := by
    intro u records due raises
    have bit : u.host.events.getLsbD 9 = (ageDemotion c.visited s).host.events.getLsbD 9 := by
      rw [raises.getLsbD (by decide), host]
    exact ⟨recordOf_congr records _, fun r other => (recordOf_congr records r).trans (recordOf_decidedVisit_other c other),
      due, fun demotes => bit.trans (raised demotes), fun demotes => bit.trans (by rw [kept demotes])⟩
  rw [visitRow_eq]
  split
  · exact moved _ rfl rfl (.of_host_eq rfl)
  · exact moved _ (advanceScan_records c) (advanceScan_due c) (advanceScan_raises _ c)

/-- A visit pauses the scan: the row wants an entry and the due queue is full. -/
def visitPauses (c : ScanCursor) (s : State) : Bool :=
  visitWants c s && decide (512 ≤ s.scheduler.due.length)

theorem visitRow_of_pausing {c : ScanCursor} (pauses : visitPauses c s = true) :
    visitRow c s = { decidedVisit c s with
      scheduler := { (decidedVisit c s).scheduler with cursor := some { c with paused := true } } } := by
  rw [visitRow_eq]
  exact if_pos pauses

theorem visitRow_of_moving {c : ScanCursor} (moves : visitPauses c s = false) :
    visitRow c s = advanceScan c (decidedVisit c s) := by
  rw [visitRow_eq]
  exact if_neg (Bool.eq_false_iff.mp moves)

theorem visitRow_frame {c : ScanCursor} (case_ : visitPauses c s = true ∨ s.scheduler.sliceTimer ≠ .expired ∨
    ¬ (1024 ≤ c.row.val + 16 ∧ s.deviceCount ≤ c.device.val + 1)) :
    visitRow c s = { s with
      records := (visitRow c s).records, host := (ageDemotion c.visited s).host
      scheduler := { s.scheduler with
        due := (visitRow c s).scheduler.due, cursor := (visitRow c s).scheduler.cursor
        pendingSlices := (visitRow c s).scheduler.pendingSlices, forced := (visitRow c s).scheduler.forced } } := by
  have decided := decidedVisit_frame (s := s) c
  cases pauses : visitPauses c s with
  | true =>
    rw [visitRow_of_pausing pauses]
    generalize decidedVisit c s = b at decided ⊢
    rw [decided]
  | false =>
    have moves : s.scheduler.sliceTimer ≠ .expired ∨ ¬ (1024 ≤ c.row.val + 16 ∧ s.deviceCount ≤ c.device.val + 1) :=
      case_.resolve_left (by rw [pauses]; decide)
    rw [visitRow_of_moving pauses]
    generalize decidedVisit c s = b at decided ⊢
    have moved := advanceScan_frame (s := b) c (by rw [decided]; exact moves)
    generalize advanceScan c b = u at moved ⊢
    rw [moved, decided]

/-- A visit after which the scan neither waits nor ends moves the cursor alone beside what it decides. -/
theorem visitRow_forced {c : ScanCursor} (case_ : visitPauses c s = true ∨
    ¬ (1024 ≤ c.row.val + 16 ∧ s.deviceCount ≤ c.device.val + 1)) :
    (visitRow c s).scheduler.forced = s.scheduler.forced := by
  have decided := decidedVisit_frame (s := s) c
  cases pauses : visitPauses c s with
  | true =>
    rw [visitRow_of_pausing pauses, decided]
  | false =>
    have more := case_.resolve_left (by rw [pauses]; decide)
    rw [visitRow_of_moving pauses, decided]
    obtain ⟨-, eq⟩ | ⟨-, -, eq⟩ | ⟨last, end_, -⟩ := advanceScan_cases (s := decidedVisit c s) c
    · rw [← decided, eq, decided]
    · rw [← decided, eq, decided]
    · rw [decided] at end_
      exact absurd ⟨last, end_⟩ more

/-- What the end of a scan leaves while the slice timer runs (R68, R73). -/
theorem visitRow_of_ending {c : ScanCursor} (moves : visitPauses c s = false) (last : 1024 ≤ c.row.val + 16)
    (device : s.deviceCount ≤ c.device.val + 1) :
    visitRow c s = endScan c (decidedVisit c s) := by
  rw [visitRow_of_moving moves, advanceScan_of_end c last]
  rw [decidedVisit_frame]
  exact device

theorem visitRow_ended {c : ScanCursor} (moves : visitPauses c s = false) (last : 1024 ≤ c.row.val + 16)
    (device : s.deviceCount ≤ c.device.val + 1) (runs : s.scheduler.sliceTimer ≠ .expired) :
    visitRow c s = { decidedVisit c s with
      scheduler := { s.scheduler with
        due := (decidedVisit c s).scheduler.due
        pendingSlices := s.scheduler.pendingSlices - 1
        cursor := if 0 < s.scheduler.pendingSlices - 1 then some (nextSlice c) else none
        forced := s.scheduler.forced && !forcedMayClear (scanEnded c (decidedVisit c s)) } } := by
  have decided := decidedVisit_frame (s := s) c
  rw [visitRow_of_ending moves last device]
  generalize decidedVisit c s = b at decided ⊢
  rw [endScan_of_running c (by rw [decided]; exact runs)]
  generalize forcedMayClear (scanEnded c b) = clear
  rw [decided]
  rfl

/-- The end of a scan under a HELD timer takes the expiry held back (R61). -/
theorem visitRow_held {c : ScanCursor} (moves : visitPauses c s = false) (last : 1024 ≤ c.row.val + 16)
    (device : s.deviceCount ≤ c.device.val + 1) (held : s.scheduler.sliceTimer = .expired)
    (full : s.scheduler.pendingSlices = 15) : expiryTaken (scanEnded c (decidedVisit c s)) (visitRow c s) := by
  rw [visitRow_of_ending moves last device, endScan_of_held c]
  · exact takeExpiry_expiryTaken
  · rw [decidedVisit_frame]
    exact held
  · rw [decidedVisit_frame]
    exact full

theorem scanEnded_decidedVisit {c : ScanCursor} (full : s.scheduler.pendingSlices = 15) :
    scanEnded c (decidedVisit c s) = { s with
      records := (visitRow c s).records, host := (ageDemotion c.visited s).host
      scheduler := { s.scheduler with
        due := (visitRow c s).scheduler.due, pendingSlices := 14, cursor := some (nextSlice c) } } := by
  have decided := decidedVisit_frame (s := s) c
  have records : (visitRow c s).records = (decidedVisit c s).records := by
    rw [visitRow_eq]
    split
    · rfl
    · exact advanceScan_records c
  rw [records, (visitRow_visited c).due]
  generalize decidedVisit c s = b at decided ⊢
  have count : b.scheduler.pendingSlices = 15 := by rw [decided]; exact full
  unfold scanEnded
  rw [count, decided]
  rfl

/-- Settles O36. -/
theorem scanVisitDecidesAndMovesOn : Obligations.ScanVisitDecidesAndMovesOn := by
  intro s c run cursor unpaused row found age demoted visited effective due full append stays ends flagged
  have staysEq : stays = visitPauses c s := rfl
  have left := visitRow_visited (s := s) c
  have flaggedEq : flagged = (ageDemotion c.visited s).host := (ageDemotion_host c.visited).symm
  have endsEq : ends = true ↔ stays = false ∧ 1024 ≤ c.row.val + 16 ∧ s.deviceCount ≤ c.device.val + 1 := by
    show (!stays && decide _) = true ↔ _
    rw [Bool.and_eq_true_iff, Bool.not_eq_true', decide_eq_true_iff]
  have goesOn : ends = false → visitPauses c s = true ∨ ¬ (1024 ≤ c.row.val + 16 ∧ s.deviceCount ≤ c.device.val + 1) := by
    intro not_
    by_contra both
    rw [not_or, not_not, ← staysEq, Bool.not_eq_true] at both
    rw [endsEq.mpr both] at not_
    exact absurd not_ (by decide)
  have decided := decidedVisit_frame (s := s) c
  refine ⟨visitRow c s, exec_scanVisit run cursor unpaused, left.here.trans (recordOf_decidedVisit_row c), left.other,
    left.due.trans (decidedVisit_due c), left.ageDemote, left.noDemote, fun case_ => ?_, fun not_ => ?_, fun ended runs => ?_,
    fun pauses => ?_, fun moves more => ?_, fun moves last more there => ?_, fun moves last end_ =>
      ⟨fun runs => ?_, fun held full15 => ?_⟩⟩
  · rw [flaggedEq]
    refine visitRow_frame ?_
    obtain not_ | runs := case_
    · exact (goesOn not_).imp_right .inr
    · exact .inr (.inl runs)
  · exact visitRow_forced (goesOn not_)
  · obtain ⟨moves, last, end_⟩ := endsEq.mp ended
    have eq := visitRow_ended moves last end_ runs
    rw [left.due]
    have forced : (visitRow c s).scheduler.forced =
        (s.scheduler.forced && !forcedMayClear (scanEnded c (decidedVisit c s))) := by rw [eq]
    rw [forced, Bool.and_eq_true_iff, Bool.not_eq_true', ← Bool.not_eq_true, forcedMayClear_iff]
    have count : (scanEnded c (decidedVisit c s)).scheduler.pendingSlices = s.scheduler.pendingSlices - 1 := by
      rw [decided]
      rfl
    have serial : (scanEnded c (decidedVisit c s)).scheduler.serial = s.scheduler.serial := by
      rw [decided]
      rfl
    rw [count, serial, Nat.sub_eq_zero_iff_le]
    exact Iff.rfl
  · rw [visitRow_of_pausing pauses, decided]
    exact ⟨rfl, rfl⟩
  · rw [visitRow_of_moving moves, advanceScan_of_row c more, decided, ← unpaused]
    exact ⟨Fin.ofNat 1024 (c.row.val + 16), Nat.mod_eq_of_lt more, rfl, rfl⟩
  · have device : c.device.val + 1 < (decidedVisit c s).deviceCount := by
      rw [decided]
      exact more
    rw [visitRow_of_moving moves, advanceScan_of_device c last device, decided, ← unpaused]
    exact ⟨Fin.ofNat 4 (c.device.val + 1), Fin.ofNat 1024 (c.serial % 16), Nat.mod_eq_of_lt (by omega),
      Nat.mod_eq_of_lt (by omega), rfl, rfl⟩
  · rw [visitRow_ended moves last end_ runs]
    refine ⟨rfl, rfl, fun few => if_neg (by omega), fun many => ⟨Fin.ofNat 1024 ((c.serial + 1) % 65536 % 16),
      Nat.mod_eq_of_lt (by omega), if_pos (by omega)⟩⟩
  · have taken := visitRow_held moves last end_ held full15
    rw [scanEnded_decidedVisit full15, ← flaggedEq] at taken
    have pending : 0 < 14 := by decide
    obtain ⟨serial, count, timer, -, -, -, -, -, -, overrun, -⟩ := id taken
    obtain ⟨forced, event⟩ := overrun (.inl pending)
    exact ⟨count, serial, timer, forced, event, Fin.ofNat 1024 ((c.serial + 1) % 65536 % 16), Nat.mod_eq_of_lt (by omega),
      taken⟩

end Sys2Proof.Machine
end

section
/-! PROOFS. The bursts of the copy engine and the ends of its jobs (R9, R106 to R109, R111). -/

namespace Sys2Proof.Machine
open Sys2Proof

variable {s : State}

/-! ### The burst itself (R9, R13) -/

/-- The state in which a copy burst has moved its columns, freed the port and closed its devices, before the copy engine counts
it. -/
def burstMoved (source target : Row) (burst : Nat) (decay : Decay) (s : State) : State :=
  closeDevice target.device (closeDevice source.device (freePort (copyArrayEffect source target burst decay s)))

theorem burstMoved_frame (source target : Row) (burst : Nat) (decay : Decay) :
    burstMoved source target burst decay s = { s with
      array := (burstMoved source target burst decay s).array
      copy := { s.copy with buffer := (burstMoved source target burst decay s).copy.buffer }
      port := { s.port with operation := none, devices := (burstMoved source target burst decay s).port.devices } } := rfl

theorem deviceState_burstMoved (source target : Row) (burst : Nat) (decay : Decay) (d : DeviceId) :
    deviceState (burstMoved source target burst decay s) d =
      if d = source.device ∨ d = target.device then { deviceState s d with openRow := none } else deviceState s d := by
  unfold burstMoved
  rw [deviceState_closeDevice, deviceState_closeDevice]
  have same : deviceState (freePort (copyArrayEffect source target burst decay s)) d = deviceState s d := rfl
  rw [same]
  by_cases second : d = target.device
  · rw [if_pos second, if_pos (c := d = source.device ∨ d = target.device) (.inr second)]
    split_ifs <;> rfl
  · rw [if_neg second]
    simp only [second, or_false]

/-- A byte of the array after a copy burst: the columns of the burst in the target row are the source's, and the source row
holds what it was found to hold. -/
theorem readByte_copyArrayEffect (decay : Decay) (source target r : Row) (burst : Nat) (c : Column) :
    readByte (copyArrayEffect source target burst decay s) r c.val =
      if r = target ∧ 32 * burst ≤ c.val ∧ c.val < 32 * burst + 32 then readByte (applyDecay source decay s) source c.val
      else readByte (applyDecay source decay s) r c.val := by
  show readByte (writeBytes target (32 * burst) (readBytes (applyDecay source decay s) source (32 * burst) 32) _) r c.val = _
  rw [readByte_writeBytes _ target r _ _ c.isLt, length_readBytes]
  split_ifs with written
  · have column : 32 * burst + (c.val - 32 * burst) = c.val := by omega
    rw [getD_readBytes _ _ _ (by omega), column]
  · rfl

theorem burstMoved_buffer {source target : Row} (distinct : source ≠ target) (burst : Nat) (decay : Decay) (small : burst < 8) :
    (burstMoved source target burst decay s).copy.buffer =
      readBytes (burstMoved source target burst decay s) source (32 * burst) 32 := by
  show readBytes (applyDecay source decay s) source (32 * burst) 32 =
    readBytes (copyArrayEffect source target burst decay s) source (32 * burst) 32
  refine List.map_congr_left fun i mem => ?_
  have range : i < 32 := List.mem_range.mp mem
  have column := readByte_copyArrayEffect (s := s) decay source target source burst ⟨32 * burst + i, by omega⟩
  rw [if_neg fun h => distinct h.1] at column
  exact column.symm

/-- What a copy burst leaves behind stands after whatever a job's end does (R9, R13). -/
theorem JobChange.copyBurstEffect {u : State} {source target : Row} {burst : Nat} {decay : Decay}
    (change : JobChange (burstMoved source target burst decay s) u) (small : burst < 8) (distinct : source ≠ target)
    (formed : decayWellFormed decay = true) : copyBurstEffect decay source target burst s u := by
  obtain ⟨_, _, _, _, _, _, _, _, _, _, _, _, _, _, rfl⟩ := change
  refine ⟨fun r c => ?_, burstMoved_buffer distinct burst decay small, rfl,
    deviceState_burstMoved source target burst decay⟩
  refine (readByte_copyArrayEffect decay source target r burst c).trans ?_
  rw [readByte_applyDecay s source source decay formed, readByte_applyDecay s source r decay formed, if_pos rfl]
  dsimp only
  rw [if_pos rfl]

/-! ### The job after a burst -/

theorem exec_copyBurstCompletion {decay : Decay} {source target : Row} {burst : Nat} (run : running s = true)
    (op : s.port.operation = some (.copyBurst source target burst)) :
    exec (.copyBurstCompletion decay) s = .next (arbitrate (copyBurstResult (burstMoved source target burst decay s))) := by
  show Host.Outcome.next (whenRunning (copyBurstDone decay) s) = _
  rw [whenRunning_of_running run]
  unfold copyBurstDone
  rw [op]
  rfl

/-- The state in which a job has left the copy queue with its last burst. -/
def lastBurst (rest : List CopyJob) (s : State) : State :=
  { s with copy := { s.copy with engine := .idle, queue := rest } }

theorem copyBurstResult_of_abandoned (engine : s.copy.engine = .copying true) :
    copyBurstResult s = { s with copy := { s.copy with engine := .idle } } := by
  unfold copyBurstResult
  rw [engine]
  rfl

theorem copyBurstResult_of_more {j : CopyJob} {rest : List CopyJob} (engine : s.copy.engine = .copying false)
    (queue : s.copy.queue = j :: rest) (more : j.progress < 7) : copyBurstResult s = { s with
      copy := { s.copy with engine := .idle, queue := { j with progress := j.progress + 1 } :: rest } } := by
  unfold copyBurstResult advanceJob
  rw [engine]
  dsimp only
  rw [queue]
  have fewer : j.progress + 1 < Config.burstsPerRow := by
    show j.progress + 1 < 8
    omega
  exact if_pos fewer

theorem copyBurstResult_of_last {j : CopyJob} {rest : List CopyJob} (engine : s.copy.engine = .copying false)
    (queue : s.copy.queue = j :: rest) (last : j.progress = 7) : copyBurstResult s = jobDone j (lastBurst rest s) := by
  unfold copyBurstResult advanceJob
  rw [engine]
  dsimp only
  rw [queue]
  have full : ¬ j.progress + 1 < Config.burstsPerRow := by
    show ¬ j.progress + 1 < 8
    omega
  exact if_neg full

/-- Settles O37. -/
theorem copyBurstMovesColumns : Obligations.CopyBurstMovesColumns := by
  intro s decay source target burst abandoned run small distinct formed op engine case_ held
  refine ⟨_, exec_copyBurstCompletion run op, ?_⟩
  obtain ⟨bytes, buffer, -, devices⟩ := (copyBurstResult_jobChange (burstMoved source target burst decay s)).copyBurstEffect
    small distinct formed
  refine ⟨bytes, buffer, ?_⟩
  have frame := burstMoved_frame (s := s) source target burst decay
  generalize burstMoved source target burst decay s = t at frame devices ⊢
  cases abandoned with
  | true =>
    have eq := copyBurstResult_of_abandoned (s := t) (by rw [frame]; exact engine)
    rw [eq] at devices ⊢
    refine ⟨rfl, by rw [frame], fun _ => by rw [frame], nofun, devices, by rw [frame]⟩
  | false =>
    obtain ⟨j, rest, queue, more⟩ := case_.resolve_left (by decide)
    have eq := copyBurstResult_of_more (s := t) (by rw [frame]; exact engine) (by rw [frame]; exact queue) more
    rw [eq] at devices ⊢
    refine ⟨rfl, by rw [frame], nofun, fun _ j' rest' queue' => ?_, devices, by rw [frame]⟩
    obtain ⟨rfl, rfl⟩ := List.cons.inj (queue.symm.trans queue')
    rfl

/-! ### The end of a PARK or RETIRE job (R107, R109, R123) -/

/-- A job's last burst leaves what the job's end is about as it was. -/
structure BurstEnded (rest : List CopyJob) (s t : State) : Prop where
  copy : ∃ buffer, t.copy = { s.copy with engine := .idle, queue := rest, buffer := buffer }
  records : t.records = s.records
  scheduler : t.scheduler = s.scheduler
  redirects : t.redirects = s.redirects
  probes : t.probes = s.probes
  host : t.host = s.host
  controller : t.controller = s.controller

/-- The last burst of a job, whatever the kind: what the burst does and the state in which the job ends. -/
theorem exec_lastBurst {decay : Decay} {source target : Row} {burst : Nat} {j : CopyJob} {rest : List CopyJob}
    (run : running s = true) (op : s.port.operation = some (.copyBurst source target burst))
    (engine : s.copy.engine = .copying false) (queue : s.copy.queue = j :: rest) (last : j.progress = 7) :
    ∃ t, BurstEnded rest s t ∧ exec (.copyBurstCompletion decay) s = .next (arbitrate (jobDone j t)) ∧
      (burst < 8 → source ≠ target → decayWellFormed decay = true →
        copyBurstEffect decay source target burst s (jobDone j t)) := by
  have result := copyBurstResult_of_last (s := burstMoved source target burst decay s) engine queue last
  have ended : BurstEnded rest s (lastBurst rest (burstMoved source target burst decay s)) := by
    have frame := burstMoved_frame (s := s) source target burst decay
    generalize burstMoved source target burst decay s = t at frame
    unfold lastBurst
    rw [frame]
    exact ⟨⟨_, rfl⟩, rfl, rfl, rfl, rfl, rfl, rfl⟩
  refine ⟨_, ended, ?_, fun small distinct formed => ?_⟩
  · rw [exec_copyBurstCompletion run op, result]
  · have change := copyBurstResult_jobChange (burstMoved source target burst decay s)
    rw [result] at change
    exact change.copyBurstEffect small distinct formed

theorem parkDone_scheduler {k : ContextId} (parking : (contextOf s k).state = .parking) :
    (parkDone k s).scheduler = (departIfQueued (contextOf s k).target s).scheduler := by
  unfold parkDone
  simp only [parking]
  rfl

theorem changeRedirect_scheduler (i : ReservedIndex) (state : RedirectState) (owner : Owner) :
    (changeRedirect i state owner s).scheduler = s.scheduler := by
  rw [changeRedirect_eq]

theorem changeRedirect_records (i : ReservedIndex) (state : RedirectState) (owner : Owner) :
    (changeRedirect i state owner s).records = s.records := by
  rw [changeRedirect_eq]

theorem redirectAt_of_changed {i : ReservedIndex} {state : RedirectState} {owner : Owner} {e : RedirectEntry} {t : State}
    (entry : redirectAt s i = some e) (changed : t.redirects = (changeRedirect i state owner s).redirects) :
    redirectAt t i = some { e with state := state, owner := owner } ∧ ∀ m, m ≠ i → redirectAt t m = redirectAt s m := by
  constructor
  · rw [redirectAt_congr changed, redirectAt_changeRedirect, if_pos rfl, entry]
    rfl
  · intro m other
    rw [redirectAt_congr changed, redirectAt_changeRedirect, if_neg other]

/-- Settles O38. -/
theorem parkJobCompletion : Obligations.ParkJobCompletion := by
  intro s decay source target burst j rest k e run law op engine queue kind owner last parking home entry c old
  obtain ⟨t, ended, next, effect⟩ := exec_lastBurst (decay := decay) run op engine queue last
  have context : ∀ m, contextOf (changeRedirect j.index .parkHeld (.context k) t) m = contextOf s m := fun m =>
    contextOf_congr_probes ((changeRedirect_probes ..).trans ended.probes) m
  have done : jobDone j t = parkDone k (changeRedirect j.index .parkHeld (.context k) t) := by
    unfold jobDone
    rw [kind, owner]
    rfl
  refine ⟨_, next, effect, ?_⟩
  rw [done]
  have parked : (contextOf (changeRedirect j.index .parkHeld (.context k) t) k).state = .parking := by rw [context, parking]
  have records : (changeRedirect j.index .parkHeld (.context k) t).records = s.records := by
    rw [changeRedirect_records, ended.records]
  have scheduler : (changeRedirect j.index .parkHeld (.context k) t).scheduler = s.scheduler := by
    rw [changeRedirect_scheduler, ended.scheduler]
  obtain ⟨buffer, copy⟩ := ended.copy
  obtain ⟨here, elsewhere⟩ := redirectAt_of_changed ((redirectAt_congr ended.redirects j.index).trans entry)
    (parkDone_redirects k)
  have record := recordOf_parkDone parked
  rw [context, home] at record
  refine ⟨?_, ?_, here, fun i other => (elsewhere i other).trans (redirectAt_congr ended.redirects i), ?_, fun r other => ?_,
    ?_, ?_, fun m other => ?_⟩
  · rw [parkDone_copy, changeRedirect_copy, copy]
  · rw [parkDone_copy, changeRedirect_copy, copy]
  · rw [record, if_pos rfl]
  · rw [record, if_neg other, recordOf_congr records]
  · rw [parkDone_scheduler parked, context, home, departIfQueued_due, scheduler]
    rw [recordOf_congr records, scheduler]
    exact law.2.1 j.home
  · have found : recordOf (changeRedirect j.index .parkHeld (.context k) t) (contextOf s k).target = recordOf s j.home := by
      rw [home, recordOf_congr records]
    rw [contextOf_parkDone, if_pos ⟨rfl, parked⟩, context, scheduler, found]
    rfl
  · rw [contextOf_parkDone, if_neg fun h => other h.1, context]

/-- A row bound to a spare: its entry is SPARE/ACTIVE, its record RETIRED, its due entry gone (R53, R109, R145). -/
structure RowSpared (home : Row) (i : ReservedIndex) (s t : State) : Prop where
  probes : t.probes = s.probes
  copy : t.copy = s.copy
  host : t.host = s.host
  entry : ∀ e, redirectAt s i = some e → redirectAt t i = some { e with state := .spareActive, owner := .command }
  elsewhere : ∀ m, m ≠ i → redirectAt t m = redirectAt s m
  record : ∀ r, recordOf t r = if r = home
    then { status := .retired, cls := 0, margin := 0, stamp := none, queued := false, spare := some i } else recordOf s r
  due : Flagged s → t.scheduler.due = s.scheduler.due.filter (fun d => decide (d.row ≠ home))

theorem retireRecord_spares (home : Row) (i : ReservedIndex) :
    RowSpared home i s (retireRecord home i (changeRedirect i .spareActive .command s)) where
  probes := (retireRecord_probes ..).trans (changeRedirect_probes ..)
  copy := (retireRecord_copy ..).trans (changeRedirect_copy ..)
  host := (retireRecord_host ..).trans (changeRedirect_host ..)
  entry e entry := (redirectAt_of_changed entry (retireRecord_redirects home i)).1
  elsewhere m other := by
    rw [redirectAt_congr (retireRecord_redirects home i), redirectAt_changeRedirect, if_neg other]
  record r := by rw [recordOf_retireRecord, recordOf_congr (changeRedirect_records i _ _) r]
  due flagged := by
    have scheduler := changeRedirect_scheduler (s := s) i .spareActive .command
    rw [retireRecord_due, departIfQueued_due, scheduler]
    rw [recordOf_congr (changeRedirect_records i _ _), scheduler]
    exact flagged home

/-- Settles O40. -/
theorem retireJobCompletion : Obligations.RetireJobCompletion := by
  intro s decay source target burst j rest e run law op engine queue kind last entry
  obtain ⟨t, ended, next, effect⟩ := exec_lastBurst (decay := decay) run op engine queue last
  refine ⟨_, next, effect, ?_⟩
  have done : jobDone j t = retireDone j t := by
    unfold jobDone
    rw [kind]
  have flagged : Flagged t := fun r => by
    rw [recordOf_congr ended.records, ended.scheduler]
    exact law.2.1 r
  obtain ⟨probes, copy, host, bound, elsewhere, record, due⟩ := retireRecord_spares (s := t) j.home j.index
  obtain ⟨buffer, copied⟩ := ended.copy
  rw [done]
  unfold retireDone
  generalize retireRecord j.home j.index (changeRedirect j.index .spareActive .command t) = v at *
  dsimp only
  rw [copy, copied, raiseEvent_eq_withEvents]
  refine ⟨rfl, rfl, rfl, bound e ((redirectAt_congr ended.redirects j.index).trans entry),
    fun i other => (elsewhere i other).trans (redirectAt_congr ended.redirects i), (record j.home).trans (if_pos rfl),
    fun r other => (record r).trans ((if_neg other).trans (recordOf_congr ended.records r)),
    (due flagged).trans (by rw [ended.scheduler]), ?_, probes.trans ended.probes⟩
  show (withEvents 0x020#10 v).host = (withEvents 0x020#10 s).host
  unfold withEvents
  rw [host, ended.host]

end Sys2Proof.Machine
end

section
/-! PROOFS. The end of a RESTORE job: the record, the context and its log entry, and the unwind (R108, R133, R144, R169). -/

namespace Sys2Proof.Machine
open Sys2Proof

variable {s : State}

/-! ### The restored record -/

theorem recordOf_restoredRecord_other (c : ProbeContext) {r : Row} (other : r ≠ c.target) :
    recordOf (restoredRecord c s) r = recordOf s r := by
  unfold restoredRecord applyOutcome reinstate
  cases c.abortReason with
  | none => cases c.outcome.bind PendingOutcome.record with
    | none => rfl
    | some o => exact (recordOf_setRecord ..).trans (if_neg other)
  | some reason => cases c.prior with
    | none => rfl
    | some p => exact (recordOf_setRecord ..).trans (if_neg other)

theorem recordOf_restoredRecord_outcome {c : ProbeContext} {o : OutcomeRecord} (finished : c.abortReason = none)
    (outcome : c.outcome.bind PendingOutcome.record = some o) :
    recordOf (restoredRecord c s) c.target = { recordOf s c.target with
      status := o.status, cls := o.cls, margin := o.margin
      stamp := if o.status = .profiled then some s.scheduler.epoch else none, spare := none } := by
  unfold restoredRecord applyOutcome
  rw [finished]
  dsimp only
  rw [outcome]
  exact recordOf_setRecord_same ..

theorem recordOf_restoredRecord_prior {c : ProbeContext} {p : PriorRecord} (aborted : c.abortReason ≠ none)
    (prior : c.prior = some p) :
    recordOf (restoredRecord c s) c.target = { recordOf s c.target with
      status := p.status, cls := p.cls, margin := p.margin
      stamp := if p.status = .profiled then p.age.map (ageOf s.scheduler.epoch) else none, spare := none } := by
  obtain ⟨reason, eq⟩ := Option.ne_none_iff_exists'.mp aborted
  unfold restoredRecord reinstate
  rw [eq]
  dsimp only
  rw [prior]
  exact recordOf_setRecord_same ..

theorem restoredRecord_host (c : ProbeContext) : (restoredRecord c s).host = s.host := by
  unfold restoredRecord
  cases c.abortReason with
  | none => exact applyOutcome_host s c
  | some reason => exact reinstate_host s c

/-! ### The end of the context -/

/-- The outcome with which a context leaves RESTORING (R133). -/
def restoreOutcome (c : ProbeContext) : PendingOutcome :=
  if c.abortReason = none then c.outcome.getD abortedOutcome else abortedOutcome

theorem restoreDone_of_reset {k : ContextId} (restoring : (contextOf s k).state = .restoring)
    (reset : (contextOf s k).abortReason = some .reset) : restoreDone k s =
      setContext k { contextOf s k with state := .idle, outcome := none } (restoredRecord (contextOf s k) s) := by
  unfold restoreDone restoredRecord
  simp only [restoring, reset]

theorem restoreDone_of_other {k : ContextId} (restoring : (contextOf s k).state = .restoring)
    (other : (contextOf s k).abortReason ≠ some .reset) : restoreDone k s =
      enterDone k (restoreOutcome (contextOf s k)) (restoredRecord (contextOf s k) s) := by
  unfold restoreDone restoredRecord restoreOutcome
  cases reason : (contextOf s k).abortReason with
  | none =>
    simp only [restoring, reason]
    rfl
  | some reason_ =>
    cases reason_ with
    | reset => exact absurd reason other
    | host =>
      simp only [restoring, reason]
      rfl
    | thermal =>
      simp only [restoring, reason]
      rfl

/-- What a RESTORE job's end does beside the records and the context leaves everything else alone. -/
theorem restoreDone_redirects {k : ContextId} (restoring : (contextOf s k).state = .restoring) :
    (restoreDone k s).redirects = s.redirects := by
  by_cases reset : (contextOf s k).abortReason = some .reset
  · rw [restoreDone_of_reset restoring reset]
    exact restoredRecord_redirects _
  · rw [restoreDone_of_other restoring reset, enterDone_redirects, restoredRecord_redirects]

theorem restoreDone_records {k : ContextId} (restoring : (contextOf s k).state = .restoring) :
    (restoreDone k s).records = (restoredRecord (contextOf s k) s).records := by
  by_cases reset : (contextOf s k).abortReason = some .reset
  · rw [restoreDone_of_reset restoring reset]
    rfl
  · rw [restoreDone_of_other restoring reset]
    exact (enterDone_probeChange _ _ _).records

theorem contextOf_restoreDone_other {k m : ContextId} (restoring : (contextOf s k).state = .restoring) (other : m ≠ k) :
    contextOf (restoreDone k s) m = contextOf s m := by
  by_cases reset : (contextOf s k).abortReason = some .reset
  · rw [restoreDone_of_reset restoring reset, contextOf_setContext, if_neg other]
    exact contextOf_congr_probes (restoredRecord_probes _) m
  · rw [restoreDone_of_other restoring reset, contextOf_enterDone, if_neg other]
    exact contextOf_congr_probes (restoredRecord_probes _) m

/-- The host's part of a RESTORE job's end: LOG_READY with the log entry. -/
theorem restoreDone_host {k : ContextId} (restoring : (contextOf s k).state = .restoring) : (restoreDone k s).host =
    if (contextOf s k).abortReason ≠ some .reset ∧ s.probes.log.length < 8 then (withEvents 0x010#10 s).host else s.host := by
  have host := restoredRecord_host (s := s) (contextOf s k)
  by_cases reset : (contextOf s k).abortReason = some .reset
  · rw [restoreDone_of_reset restoring reset, if_neg fun h => h.1 reset]
    exact host
  · rw [restoreDone_of_other restoring reset, enterDone_host, restoredRecord_probes]
    unfold withEvents
    rw [host]
    simp only [ne_eq, reset, not_false_eq_true, true_and]

/-- The context and the log after a RESTORE job's end without a soft reset (R133, R147). -/
theorem restoreDone_entered {k : ContextId} (restoring : (contextOf s k).state = .restoring)
    (other : (contextOf s k).abortReason ≠ some .reset) :
    contextOf (restoreDone k s) k = { contextOf s k with
      state := if s.probes.log.length < 8 then .idle else .done, outcome := some (restoreOutcome (contextOf s k)) } ∧
    (restoreDone k s).probes.log = s.probes.log ++
      (if s.probes.log.length < 8 then [loggedEntry k (contextOf s k) (restoreOutcome (contextOf s k))] else []) ∧
    (restoreDone k s).probes.waiting = if s.probes.log.length < 8 then s.probes.waiting else s.probes.waiting ++ [k] := by
  have same := contextOf_congr_probes (restoredRecord_probes (s := s) (contextOf s k)) k
  rw [restoreDone_of_other restoring other, contextOf_enterDone, if_pos rfl, enterDone_logged, enterDone_waiting,
    restoredRecord_probes, same]
  refine ⟨?_, rfl, rfl⟩
  unfold endState
  rw [restoredRecord_probes]

/-! ### The test of the unwind -/

theorem withEvents_host {t : State} (host : t.host = s.host) (flags : BitVec 10) :
    (withEvents flags t).host = (withEvents flags s).host := by
  unfold withEvents
  rw [host]

theorem withEvents_after (first second : BitVec 10) :
    (withEvents second (withEvents first s)).host = (withEvents (first ||| second) s).host := by
  simp only [withEvents, BitVec.or_assoc]

theorem testUnwind_eq : testUnwind s = { s with
    controller := if unwindEnded s then some .ready else s.controller
    host := if unwindEnded s then (withEvents 0x002#10 s).host else s.host } := by
  obtain ⟨ended, eq⟩ | ⟨stays, eq⟩ := testUnwind_cases s <;> rw [eq]
  · rw [ended]
    rfl
  · rw [stays]
    rfl

/-- Settles O39. -/
theorem restoreJobCompletion : Obligations.RestoreJobCompletion := by
  intro s decay source target burst j rest k run op engine queue kind owner last restoring home c epoch ended ending logged
  obtain ⟨t, mid, next, effect⟩ := exec_lastBurst (decay := decay) run op engine queue last
  have done : jobDone j t = testUnwind (restoreDone k (removeRedirect j.index t)) := by
    unfold jobDone
    rw [kind, owner]
    rfl
  refine ⟨_, next, effect, ?_⟩
  rw [done, testUnwind_eq]
  have context : ∀ m, contextOf (removeRedirect j.index t) m = contextOf s m := fun m => contextOf_congr_probes mid.probes m
  have still : (contextOf (removeRedirect j.index t) k).state = .restoring := (congrArg ProbeContext.state (context k)).trans restoring
  have probes : (removeRedirect j.index t).probes = s.probes := mid.probes
  have scheduler : (removeRedirect j.index t).scheduler = s.scheduler := mid.scheduler
  have record : ∀ r, recordOf (removeRedirect j.index t) r = recordOf s r := fun r => recordOf_congr mid.records r
  have redirect : ∀ i, redirectAt (removeRedirect j.index t) i = if i = j.index then none else redirectAt s i := fun i => by
    rw [redirectAt_removeRedirect, redirectAt_congr mid.redirects]
  have host : (removeRedirect j.index t).host = s.host := mid.host
  have controller : (removeRedirect j.index t).controller = s.controller := mid.controller
  have table : (removeRedirect j.index t).redirects = Sparse.erase j.index.val s.redirects := by
    rw [removeRedirect_redirects, mid.redirects]
  obtain ⟨buffer, copy⟩ : ∃ buffer, (removeRedirect j.index t).copy = _ := mid.copy
  generalize removeRedirect j.index t = v at *
  have doneRecords := restoreDone_records still
  have doneRedirects := restoreDone_redirects still
  have doneHost := restoreDone_host still
  have doneOther := fun m (other : m ≠ k) => contextOf_restoreDone_other still other
  have unwound : unwindEnded (restoreDone k v) = ended := by
    rw [Bool.eq_iff_iff, decide_eq_true_iff]
    unfold unwindEnded
    rw [restoreDone_controller, restoreDone_copy, doneRedirects, controller, copy, table]
    simp only [Bool.and_eq_true, beq_iff_eq, List.all_eq_true, Sparse.mem_erase, List.isEmpty_iff, Bool.not_eq_true']
    constructor
    · rintro ⟨⟨resetting, home_⟩, empty⟩
      exact ⟨resetting, empty, fun p mem => or_iff_not_imp_left.mpr fun other => home_ p ⟨mem, other⟩⟩
    · rintro ⟨resetting, empty, home_⟩
      exact ⟨⟨resetting, fun p mem => (home_ p mem.1).resolve_left mem.2⟩, empty⟩
  have records : ∀ r, recordOf (restoreDone k v) r = recordOf (restoredRecord c v) r := fun r => by
    rw [recordOf_congr doneRecords, context]
  rw [unwound, restoreDone_controller, controller]
  refine ⟨?_, ?_, ?_, fun i other => ?_, fun r other => ?_, ?_, fun finished o outcome => ?_, fun aborted p prior => ?_,
    fun reset => ?_, fun logs => ?_, fun other full => ?_, fun m other => (doneOther m other).trans (context m), rfl, ?_, ?_⟩
  · exact congrArg CopyEngine.queue ((restoreDone_copy k).trans copy)
  · exact congrArg CopyEngine.engine ((restoreDone_copy k).trans copy)
  · exact (redirectAt_congr doneRedirects j.index).trans ((redirect j.index).trans (if_pos rfl))
  · exact (redirectAt_congr doneRedirects i).trans ((redirect i).trans (if_neg other))
  · exact (records r).trans ((recordOf_restoredRecord_other c (home ▸ other)).trans (record r))
  · exact (restoreDone_scheduler _ _).trans scheduler
  · refine (records j.home).trans ?_
    have taken := recordOf_restoredRecord_outcome (s := v) (c := c) finished outcome
    rw [home, record, scheduler] at taken
    exact taken
  · refine (records j.home).trans ?_
    have taken := recordOf_restoredRecord_prior (s := v) (c := c) aborted prior
    rw [home, record, scheduler] at taken
    exact taken
  · have reset_ : (contextOf v k).abortReason = some .reset := by rw [context, reset]
    have eq := restoreDone_of_reset still reset_
    have here : contextOf (restoreDone k v) k = { contextOf v k with state := .idle, outcome := none } := by
      rw [eq, contextOf_setContext, if_pos rfl]
    have log : (restoreDone k v).probes.log = s.probes.log ∧ (restoreDone k v).probes.waiting = s.probes.waiting := by
      have same : (restoredRecord (contextOf v k) v).probes = s.probes := (restoredRecord_probes _).trans probes
      rw [eq, ← same]
      exact ⟨rfl, rfl⟩
    exact ⟨congrArg ProbeContext.state here, congrArg ProbeContext.outcome here, log⟩
  · obtain ⟨other, room⟩ := of_decide_eq_true logs
    obtain ⟨here, log, waiting⟩ := restoreDone_entered still (by rw [context]; exact other)
    rw [probes, context, if_pos room] at here log
    rw [probes, if_pos room] at waiting
    exact ⟨here, waiting, log⟩
  · obtain ⟨here, log, waiting⟩ := restoreDone_entered still (by rw [context]; exact other)
    rw [probes, context, if_neg (by omega)] at here log
    rw [probes, if_neg (by omega)] at waiting
    exact ⟨here, log.trans (List.append_nil _), waiting⟩
  all_goals
    have events : (restoreDone k v).host = if logged then (withEvents 0x010#10 s).host else s.host := by
      rw [doneHost, context, probes, withEvents_host host, host]
      exact (if_congr decide_eq_true_iff rfl rfl).symm
  · intro quiet stays
    rw [stays]
    exact events.trans (if_neg (Bool.eq_false_iff.mp quiet))
  · intro raised
    cases logCase : logged with
    | true =>
      rw [logCase] at events
      cases endCase : ended with
      | true =>
        refine (withEvents_host (s := withEvents 0x010#10 s) events _).trans ?_
        exact withEvents_after _ _
      | false => exact events
    | false =>
      rw [logCase] at events raised
      rw [raised.resolve_left (by decide)]
      exact withEvents_host events _

end Sys2Proof.Machine
end

section
/-! PROOFS. The pattern and check bursts of the probes, and the end of a trial (R10, R11, R125 to R132, R136, R145). -/

namespace Sys2Proof.Machine
open Sys2Proof

variable {s : State}

/-! ### Pattern bursts and the stretch (R125, R126) -/

theorem patternBurstResult_of_writing {k : ContextId} (writing : (contextOf s k).state = .writing) :
    patternBurstResult k s = setContext k (if (contextOf s k).burstsDone < 7
      then { contextOf s k with burstsDone := (contextOf s k).burstsDone + 1 }
      else { contextOf s k with
        state := .stretch, burstsDone := 0
        stretchTimer := .running ((contextOf s k).step * s.scheduler.tbase * 2000) 0 }) s := by
  unfold patternBurstResult
  simp only [writing]
  have more : (contextOf s k).burstsDone + 1 < Config.burstsPerRow ↔ (contextOf s k).burstsDone < 7 := Nat.succ_lt_succ_iff
  by_cases early : (contextOf s k).burstsDone < 7
  · rw [if_pos early, if_pos (more.mpr early)]
  · rw [if_neg early, if_neg (mt more.mp early)]
    rfl

theorem patternBurstResult_of_other {k : ContextId} (other : (contextOf s k).state ≠ .writing) : patternBurstResult k s = s := by
  unfold patternBurstResult
  dsimp only
  split
  · exact absurd ‹_› other
  all_goals rfl

/-- The state in which a pattern burst has stored its bytes, freed the port and closed its device. -/
def patternStored (row : Row) (burst : Nat) (bytes : List Byte) (s : State) : State :=
  closeDevice row.device (freePort (writeBytes row (32 * burst) bytes s))

theorem patternStored_frame (row : Row) (burst : Nat) (bytes : List Byte) : patternStored row burst bytes s = { s with
    array := (patternStored row burst bytes s).array
    port := { s.port with operation := none, devices := (patternStored row burst bytes s).port.devices } } := rfl

theorem exec_patternBurstCompletion {k : ContextId} {row : Row} {burst : Nat} {bytes : List Byte} (run : running s = true)
    (op : s.port.operation = some (.patternBurst k row burst bytes)) :
    exec .patternBurstCompletion s = .next (arbitrate (patternBurstResult k (patternStored row burst bytes s))) := by
  show Host.Outcome.next (whenRunning patternBurstDone s) = _
  rw [whenRunning_of_running run]
  unfold patternBurstDone
  rw [op]
  rfl

/-- Settles O41. -/
theorem patternBurstAndStretchExpiry : Obligations.PatternBurstAndStretchExpiry := by
  constructor
  · intro s k row burst bytes run small length op c
    refine ⟨_, exec_patternBurstCompletion run op, ?_⟩
    have bytes_ : ∀ (r : Row) (column : Column), readByte (patternStored row burst bytes s) r column.val =
        if r = row ∧ 32 * burst ≤ column.val ∧ column.val < 32 * burst + 32 then bytes.getD (column.val - 32 * burst) 0
        else readByte s r column.val := fun r column => by
      have stored := readByte_writeBytes s row r (32 * burst) bytes column.isLt
      rw [length] at stored
      exact stored
    have devices : ∀ d, deviceState (patternStored row burst bytes s) d =
        if d = row.device then { deviceState s d with openRow := none } else deviceState s d :=
      fun d => deviceState_closeDevice _ row.device d
    have frame := patternStored_frame (s := s) row burst bytes
    generalize patternStored row burst bytes s = t at bytes_ devices frame ⊢
    have context : ∀ m, contextOf t m = contextOf s m := fun m => contextOf_congr_probes (by rw [frame]) m
    have scheduler : t.scheduler = s.scheduler := by rw [frame]
    by_cases writing : c.state = .writing
    · have here : (contextOf t k).state = .writing := by rw [context]; exact writing
      rw [patternBurstResult_of_writing here, context, scheduler, if_neg (not_not.mpr writing)]
      refine ⟨bytes_, (contextOf_setContext ..).trans (if_pos rfl),
        fun m other => (contextOf_setContext ..).trans ((if_neg other).trans (context m)), devices, ?_⟩
      generalize (if (contextOf s k).burstsDone < 7 then _ else _ : ProbeContext) = counted
      rw [frame]
      rfl
    · have here : (contextOf t k).state ≠ .writing := by rw [context]; exact writing
      rw [patternBurstResult_of_other here, if_pos writing]
      refine ⟨bytes_, context k, fun m _ => context m, devices, ?_⟩
      rw [frame]
  · intro s k length elapsed run stretch timer
    show Host.Outcome.next (whenRunning (stretchExpired k) s) = _
    rw [whenRunning_of_running run]
    unfold stretchExpired
    simp only [stretch, timer]
    rfl

/-! ### Check bursts (R11, R127, R128) -/

/-- The columns that differ are those of the positions at which the two lists do. -/
theorem differingColumns_eq (first : Nat) (found expected : List Byte) (same : found.length = expected.length) :
    differingColumns first found expected =
      ((List.range found.length).filter (fun i => decide (found.getD i 0 ≠ expected.getD i 0))).map (first + ·) := by
  induction found generalizing first expected with
  | nil => rfl
  | cons a as ih =>
    cases expected with
    | nil => cases same
    | cons b bs =>
      have tail := ih (first + 1) bs (Nat.succ.inj same)
      rw [List.length_cons, List.range_succ_eq_map, List.filter_cons, List.filter_map]
      unfold differingColumns
      have shift : (fun x => first + x) ∘ Nat.succ = fun x => first + 1 + x := by
        funext x
        show first + (x + 1) = first + 1 + x
        omega
      by_cases eq : a = b
      · rw [if_pos eq, tail, if_neg (by simpa using eq), List.map_map, shift]
        rfl
      · rw [if_neg eq, tail, if_pos (by simpa using eq), List.map_cons, List.map_map, shift]
        rfl

theorem countBurst_differingColumns (first : Nat) (found expected : List Byte) (same : found.length = expected.length)
    (c : ProbeContext) : countBurst (differingColumns first found expected) c = { c with
      mismatch := min 255 (c.mismatch +
        (List.range found.length).countP (fun i => decide (found.getD i 0 ≠ expected.getD i 0)))
      firstFailing := c.firstFailing.or
        (((List.range found.length).find? (fun i => decide (found.getD i 0 ≠ expected.getD i 0))).map (first + ·))
      burstsDone := c.burstsDone + 1 } := by
  unfold countBurst
  rw [differingColumns_eq first found expected same, List.length_map, ← List.countP_eq_length_filter, List.head?_map,
    List.head?_filter]

/-- The state in which a check burst has read its row, freed the port and closed its device. -/
def rowChecked (row : Row) (burst : Nat) (decay : Decay) (s : State) : State :=
  closeDevice row.device (freePort (applyDecay row (decayMet burst decay) s))

theorem rowChecked_frame (row : Row) (burst : Nat) (decay : Decay) : rowChecked row burst decay s = { s with
    array := (rowChecked row burst decay s).array
    port := { s.port with operation := none, devices := (rowChecked row burst decay s).port.devices } } := rfl

/-- The columns in which a row differs from the bytes expected of a burst's columns. -/
def burstDiffers (row : Row) (burst : Nat) (expected : List Byte) (s : State) (i : Nat) : Bool :=
  decide (readByte s row (32 * burst + i) ≠ expected.getD i 0)

/-- A context with a check burst counted (R128). -/
def burstCounted (row : Row) (burst : Nat) (expected : List Byte) (s : State) (c : ProbeContext) : ProbeContext :=
  { c with
    mismatch := min 255 (c.mismatch + (List.range 32).countP (burstDiffers row burst expected s))
    firstFailing := c.firstFailing.or (((List.range 32).find? (burstDiffers row burst expected s)).map (fun i => 32 * burst + i))
    burstsDone := c.burstsDone + 1 }

theorem countBurst_readBytes {row : Row} {burst : Nat} {expected : List Byte} (length : expected.length = 32)
    (c : ProbeContext) :
    countBurst (differingColumns (32 * burst) (readBytes s row (32 * burst) 32) expected) c =
      burstCounted row burst expected s c := by
  have differs : ∀ i ∈ List.range 32, decide ((readBytes s row (32 * burst) 32).getD i 0 ≠ expected.getD i 0) =
      burstDiffers row burst expected s i := fun i mem => by
    rw [getD_readBytes _ _ _ (List.mem_range.mp mem)]
    rfl
  rw [countBurst_differingColumns _ _ _ (by rw [length_readBytes, length]), length_readBytes]
  unfold burstCounted
  rw [List.countP_congr fun i mem => by rw [differs i mem], List.find?_congr differs]

theorem exec_checkBurstCompletion {decay : Decay} {k : ContextId} {row : Row} {burst : Nat} {expected : List Byte}
    (run : running s = true) (op : s.port.operation = some (.checkBurst k row burst expected)) :
    exec (.checkBurstCompletion decay) s = .next (arbitrate (checkBurstResult k
      (differingColumns (32 * burst) (readBytes (rowChecked row burst decay s) row (32 * burst) 32) expected)
      (rowChecked row burst decay s))) := by
  show Host.Outcome.next (whenRunning (checkBurstDone decay) s) = _
  rw [whenRunning_of_running run]
  unfold checkBurstDone
  rw [op]
  rfl

/-- What a check burst leaves behind stands after whatever the end of a trial does (R11, R13). -/
theorem JobChange.checkBurstEffect {u : State} {row : Row} {burst : Nat} {decay : Decay}
    (change : JobChange (rowChecked row burst decay s) u) (formed : decayWellFormed decay = true) :
    checkBurstEffect decay row burst s u := by
  obtain ⟨_, _, _, _, _, _, _, _, _, _, _, _, _, _, rfl⟩ := change
  refine ⟨fun r column => ?_, rfl, fun d => deviceState_closeDevice _ row.device d⟩
  show readByte (applyDecay row (decayMet burst decay) s) r column.val = _
  unfold decayMet
  by_cases first : burst = 0
  · rw [if_pos first, readByte_applyDecay s row r decay formed]
    simp only [first, and_true]
  · rw [if_neg first, if_neg fun h => first h.2]
    rfl

/-- Settles O42. -/
theorem checkBurstCountsDifferingColumns : Obligations.CheckBurstCountsDifferingColumns := by
  intro s decay k row burst expected run small length formed op c differs early
  refine ⟨_, exec_checkBurstCompletion run op, (checkBurstResult_jobChange _ k _).checkBurstEffect formed, ?_⟩
  have frame := rowChecked_frame (s := s) row burst decay
  generalize rowChecked row burst decay s = t at frame ⊢
  have context : ∀ m, contextOf t m = contextOf s m := fun m => contextOf_congr_probes (by rw [frame]) m
  by_cases checking : c.state = .checking
  · have here : (contextOf t k).state = .checking := by rw [context]; exact checking
    have more : (burstCounted row burst expected t c).burstsDone < 8 :=
      Nat.succ_lt_succ (early.resolve_left (not_not.mpr checking))
    have result := checkBurstResult_eq (differingColumns (32 * burst) (readBytes t row (32 * burst) 32) expected) here
      (countBurst_readBytes length _)
    rw [context] at result
    rw [result, if_pos more, if_neg (not_not.mpr checking)]
    refine ⟨(contextOf_setContext ..).trans (if_pos rfl),
      fun m other => (contextOf_setContext ..).trans ((if_neg other).trans (context m)), ?_⟩
    generalize burstCounted row burst expected t (contextOf s k) = counted
    rw [frame]
    rfl
  · have here : (contextOf t k).state ≠ .checking := by rw [context]; exact checking
    rw [checkBurstResult_of_other _ here, if_pos checking]
    refine ⟨context k, fun m _ => context m, ?_⟩
    rw [frame]

/-! ### The end of a trial (R129 to R132, R145) -/

theorem enterWriting_of_passed {c : ProbeContext} (passed : c.mismatch = 0) :
    enterWriting c = { c with state := .writing, burstsDone := 0, firstFailing := none } := by
  unfold enterWriting
  rw [← passed]

/-- A probe that finishes without a conversion is on its way home (R132). -/
theorem finishProbe_of_restore {k : ContextId} {c : ProbeContext} {outcome : PendingOutcome}
    (derived : deriveOutcome s.config.autoRetire c = outcome) (returns : outcome.name ≠ .retired) :
    finishProbe k (setContext k c s) = beginRestore k (setContext k { c with outcome := some outcome } s) := by
  unfold finishProbe
  dsimp only
  rw [contextOf_setContext_same, setContext_setContext, setContext_config, derived, if_neg returns]

/-- A probe that finishes with RETIRED converts its park into a spare (R145). -/
theorem finishProbe_of_retired {k : ContextId} {c : ProbeContext} {outcome : PendingOutcome}
    (derived : deriveOutcome s.config.autoRetire c = outcome) (retired : outcome.name = .retired) :
    finishProbe k (setContext k c s) = enterDone k outcome (retireRecord c.target c.parkIndex
      (changeRedirect c.parkIndex .spareActive .command (setContext k { c with outcome := some outcome } s))) := by
  unfold finishProbe
  dsimp only
  rw [contextOf_setContext_same, setContext_setContext, setContext_config, derived, if_pos retired, convert_eq, contextOf_setContext_same]

theorem contextOf_finishProbe_other {k m : ContextId} (other : m ≠ k) : contextOf (finishProbe k s) m = contextOf s m := by
  unfold finishProbe
  dsimp only
  split_ifs
  · rw [convert_eq, contextOf_enterDone, if_neg other]
    refine (contextOf_congr_probes ((retireRecord_probes ..).trans (changeRedirect_probes ..)) m).trans ?_
    rw [contextOf_setContext, if_neg other]
  · rw [contextOf_beginRestore, if_neg other, contextOf_setContext, if_neg other]

theorem contextOf_checkBurstResult_other {k m : ContextId} (differing : List Nat) (other : m ≠ k) :
    contextOf (checkBurstResult k differing s) m = contextOf s m := by
  have set_ : ∀ c, contextOf (setContext k c s) m = contextOf s m := fun c => by rw [contextOf_setContext, if_neg other]
  by_cases checking : (contextOf s k).state = .checking
  · rw [checkBurstResult_eq differing checking rfl]
    split_ifs
    · exact set_ _
    · exact set_ _
    · exact set_ _
    · exact (contextOf_finishProbe_other other).trans (set_ _)
    · exact (contextOf_finishProbe_other other).trans (set_ _)
  · rw [checkBurstResult_of_other differing checking]

/-- What a probe that goes home leaves behind (R132). -/
theorem finishProbe_restores {k : ContextId} {f : ProbeContext} {e : RedirectEntry} {outcome : PendingOutcome}
    (derived : deriveOutcome s.config.autoRetire f = outcome) (returns : outcome.name ≠ .retired)
    (entry : redirectAt s f.parkIndex = some e) :
    contextOf (finishProbe k (setContext k f s)) k = { f with state := .restoring, outcome := some outcome } ∧
      redirectAt (finishProbe k (setContext k f s)) f.parkIndex =
        some { e with state := .parkRestoring, owner := .context k } ∧
      (finishProbe k (setContext k f s)).copy.queue = s.copy.queue ++
        [{ kind := .restore, home := f.target, index := f.parkIndex, owner := .context k, progress := 0 }] ∧
      (finishProbe k (setContext k f s)).records = s.records ∧
      (finishProbe k (setContext k f s)).scheduler = s.scheduler ∧ (finishProbe k (setContext k f s)).host = s.host := by
  have here := contextOf_setContext_same s k { f with outcome := some outcome }
  rw [finishProbe_of_restore derived returns, contextOf_beginRestore, if_pos rfl, beginRestore_eq, here]
  refine ⟨rfl, (redirectAt_of_changed (s := setContext k { f with outcome := some outcome } s) entry rfl).1, rfl, rfl, rfl, rfl⟩

/-- What the conversion of a park into a spare leaves behind (R145, R147). -/
theorem finishProbe_converts {k : ContextId} {f : ProbeContext} {e : RedirectEntry} {outcome : PendingOutcome}
    (derived : deriveOutcome s.config.autoRetire f = outcome) (retired : outcome.name = .retired)
    (entry : redirectAt s f.parkIndex = some e) :
    contextOf (finishProbe k (setContext k f s)) k = { f with
      state := if s.probes.log.length < 8 then .idle else .done, outcome := some outcome } ∧
    (finishProbe k (setContext k f s)).probes.log =
      s.probes.log ++ (if s.probes.log.length < 8 then [loggedEntry k f outcome] else []) ∧
    (finishProbe k (setContext k f s)).probes.waiting =
      s.probes.waiting ++ (if s.probes.log.length < 8 then [] else [k]) ∧
    redirectAt (finishProbe k (setContext k f s)) f.parkIndex = some { e with state := .spareActive, owner := .command } ∧
    (finishProbe k (setContext k f s)).copy = s.copy ∧
    (∀ r, recordOf (finishProbe k (setContext k f s)) r = if r = f.target
      then { status := .retired, cls := 0, margin := 0, stamp := none, queued := false, spare := some f.parkIndex }
      else recordOf s r) ∧
    (finishProbe k (setContext k f s)).host =
      if s.probes.log.length < 8 then (withEvents 0x010#10 s).host else s.host := by
  rw [finishProbe_of_retired derived retired]
  obtain ⟨probes, copy, host, bound, -, record, -⟩ := retireRecord_spares
    (s := setContext k { f with outcome := some outcome } s) f.target f.parkIndex
  generalize retireRecord f.target f.parkIndex (changeRedirect f.parkIndex .spareActive .command
    (setContext k { f with outcome := some outcome } s)) = w at *
  have context : contextOf w k = { f with outcome := some outcome } :=
    (contextOf_congr_probes probes k).trans (contextOf_setContext_same ..)
  have log : w.probes.log = s.probes.log := by
    rw [probes]
    rfl
  have waiting : w.probes.waiting = s.probes.waiting := by
    rw [probes]
    rfl
  have host_ : w.host = s.host := host
  refine ⟨?_, ?_, ?_, ?_, (enterDone_copy k outcome).trans copy, fun r => ?_, ?_⟩
  · rw [contextOf_enterDone, if_pos rfl, context]
    unfold endState
    rw [log]
  · rw [enterDone_logged, log, context]
    rfl
  · rw [enterDone_waiting, log, waiting]
    split_ifs
    · exact (List.append_nil _).symm
    · rfl
  · rw [redirectAt_congr (enterDone_redirects k outcome)]
    exact bound e entry
  · rw [recordOf_congr (enterDone_probeChange _ _ _).records]
    exact record r
  · rw [enterDone_host, log, withEvents_host host_, host_]

/-- Settles O43. -/
theorem trialEndAtEighthCheckBurst : Obligations.TrialEndAtEighthCheckBurst := by
  intro s decay k row burst expected e run length op checking eighth entry home
  refine ⟨_, exec_checkBurstCompletion run op, (checkBurstResult_jobChange _ k _).checkBurstEffect, ?_⟩
  have change := checkBurstResult_jobChange (rowChecked row burst decay s) k
    (differingColumns (32 * burst) (readBytes (rowChecked row burst decay s) row (32 * burst) 32) expected)
  have frame := rowChecked_frame (s := s) row burst decay
  generalize rowChecked row burst decay s = t at frame change ⊢
  have context : ∀ m, contextOf t m = contextOf s m := fun m => contextOf_congr_probes (by rw [frame]) m
  have here : (contextOf t k).state = .checking := by rw [context]; exact checking
  have result := checkBurstResult_eq (differingColumns (32 * burst) (readBytes t row (32 * burst) 32) expected) here
    (countBurst_readBytes length _)
  have other := fun m (other : m ≠ k) => contextOf_checkBurstResult_other (s := t)
    (differingColumns (32 * burst) (readBytes t row (32 * burst) 32) expected) other
  generalize checkBurstResult k (differingColumns (32 * burst) (readBytes t row (32 * burst) 32) expected) t = u at *
  intro differs c
  have counted : burstCounted row burst expected t (contextOf t k) = c := by
    have same : burstDiffers row burst expected t = differs := funext fun i => by
      show decide (readByte t row (32 * burst + i) ≠ _) = decide (readByte u row (32 * burst + i) ≠ _)
      rw [readByte_congr change.array change.powerCycle]
    unfold burstCounted
    rw [same, context, eighth]
  have done : ¬ c.burstsDone < 8 := Nat.lt_irrefl 8
  rw [counted, if_neg done] at result
  have index : c.parkIndex = (contextOf s k).parkIndex := rfl
  clear_value c
  refine ⟨fun m ne => (other m ne).trans (context m), fun passed more => ?_, fun passed last search small => ?_,
    fun finished ends => ?_⟩
  · rw [result, if_pos passed, if_pos more, contextOf_setContext, if_pos rfl, enterWriting_of_passed passed]
  · rw [result, if_pos passed, if_neg (not_lt.mpr last), if_pos ⟨search, small⟩, contextOf_setContext, if_pos rfl,
      enterWriting_of_passed passed]
  · have finish : u = finishProbe k (setContext k finished t) ∧ finished.parkIndex = c.parkIndex ∧ finished.target = c.target := by
      obtain ⟨failed, rfl⟩ | ⟨passed, last, mode, rfl⟩ := ends
      · exact ⟨result.trans (if_neg failed), rfl, rfl⟩
      · have noStep : ¬ (c.mode = .search ∧ c.step < 16) := fun ⟨search, small⟩ => by
          obtain check | big := mode
          · rw [check] at search
            cases search
          · omega
        exact ⟨result.trans ((if_pos passed).trans ((if_neg (not_lt.mpr last)).trans (if_neg noStep))), rfl, rfl⟩
    obtain ⟨eq, sameIndex, sameTarget⟩ := finish
    have config : t.config = s.config := by rw [frame]
    have found : redirectAt t finished.parkIndex = some e := by
      rw [sameIndex, index, ← entry]
      exact redirectAt_congr (by rw [frame]) _
    intro outcome
    have derived : deriveOutcome t.config.autoRetire finished = outcome := by rw [config]
    rw [eq, ← sameIndex, ← sameTarget]
    constructor
    · intro returns
      have restores := finishProbe_restores (k := k) derived returns found
      rw [frame] at restores ⊢
      exact restores
    · intro retired
      obtain ⟨here_, log, waiting, bound, copy, record, host⟩ := finishProbe_converts (k := k) derived retired found
      have host_ : t.host = s.host := by rw [frame]
      have probes : t.probes = s.probes := by rw [frame]
      rw [probes] at here_ log waiting host
      rw [withEvents_host host_, host_] at host
      refine ⟨here_, log, waiting, bound, ?_, ?_, (record _).trans (if_pos rfl), fun r ne => ?_, host⟩
      · rw [copy, frame]
      · rw [copy, frame]
      · exact (record r).trans ((if_neg ne).trans (recordOf_congr (by rw [frame]) r))

end Sys2Proof.Machine
end

section
/-! PROOFS. The pattern generator, the event and mask writes, and the allocation of a reserved row (R101, R121, R122, R176,
R177). -/

namespace Sys2Proof.Machine
open Sys2Proof

variable {s : State}

/-! ### The LFSR (R122) -/

theorem lfsrSteps_add (m n : Nat) (reg : BitVec 15) : lfsrSteps (m + n) reg = lfsrSteps m (lfsrSteps n reg) := by
  induction n generalizing reg with
  | zero => rfl
  | succ n ih => exact ih (lfsrStep reg)

/-- The bits of a number made of output bits are the outputs of the steps in their order. -/
theorem testBit_lfsrBits {n j : Nat} (small : j < n) (reg : BitVec 15) :
    (lfsrBits n reg).testBit j = lfsrOut (lfsrSteps j reg) := by
  induction n generalizing j reg with
  | zero => omega
  | succ n ih =>
    have even : ∀ x : Nat, bit (lfsrOut reg) + 2 * x = Nat.bit (lfsrOut reg) x := fun x => by
      rw [Nat.bit_val, Nat.add_comm]
      cases lfsrOut reg <;> rfl
    unfold lfsrBits
    rw [even]
    cases j with
    | zero => exact Nat.testBit_bit_zero ..
    | succ j => exact (Nat.testBit_bit_succ ..).trans (ih (by omega) (lfsrStep reg))

theorem getElem?_lfsrBytes {n i : Nat} (small : i < n) (reg : BitVec 15) :
    (lfsrBytes n reg)[i]? = some (BitVec.ofNat 8 (lfsrBits 8 (lfsrSteps (8 * i) reg))) := by
  induction n generalizing i reg with
  | zero => omega
  | succ n ih =>
    cases i with
    | zero => rfl
    | succ i =>
      unfold lfsrBytes
      rw [List.getElem?_cons_succ, ih (by omega), ← lfsrSteps_add, Nat.mul_succ]

theorem getLsbD_lfsrStep_succ (reg : BitVec 15) {n : Nat} (small : n < 14) :
    (lfsrStep reg).getLsbD (n + 1) = reg.getLsbD n := by
  unfold lfsrStep
  rw [BitVec.getLsbD_or, BitVec.getLsbD_shiftLeft, BitVec.getLsbD_setWidth, BitVec.getLsbD_ofBool]
  have inside : n + 1 < 15 := by omega
  simp [inside]

theorem getLsbD_lfsrStep_zero (reg : BitVec 15) :
    (lfsrStep reg).getLsbD 0 = xor (reg.getLsbD 14) (reg.getLsbD 13) := by
  unfold lfsrStep
  rw [BitVec.getLsbD_or, BitVec.getLsbD_shiftLeft, BitVec.getLsbD_setWidth, BitVec.getLsbD_ofBool]
  simp

theorem eq_zero_iff_getLsbD {w : Nat} (v : BitVec w) : v = 0 ↔ ∀ n, n < w → v.getLsbD n = false := by
  constructor
  · rintro rfl n -
    exact BitVec.getLsbD_zero
  · intro clear
    refine BitVec.eq_of_getLsbD_eq fun n small => ?_
    rw [clear n small]
    exact BitVec.getLsbD_zero.symm

/-- A register that is not zero does not become zero: its bits 1 to 14 move on, and bit 15 shows in the bit that enters. -/
theorem lfsrStep_ne_zero {reg : BitVec 15} (nonzero : reg ≠ 0) : lfsrStep reg ≠ 0 := by
  intro zero
  rw [eq_zero_iff_getLsbD] at zero
  have low : ∀ n, n < 14 → reg.getLsbD n = false := fun n small => by
    rw [← getLsbD_lfsrStep_succ reg small]
    exact zero (n + 1) (by omega)
  have top := zero 0 (by decide)
  rw [getLsbD_lfsrStep_zero, low 13 (by decide), Bool.xor_false] at top
  refine nonzero ((eq_zero_iff_getLsbD reg).mpr fun n small => ?_)
  obtain rfl | lower := Nat.eq_or_lt_of_le (Nat.le_of_lt_succ small)
  · exact top
  · exact low n lower

theorem burstBytes_of_lfsr {c : ProbeContext} (lfsr : c.pattern = .lfsr) : burstBytes c = lfsrBytes 32 (burstRegister c) := by
  unfold burstBytes
  rw [lfsr]
  rfl

theorem burstBytes_of_other {c : ProbeContext} (other : c.pattern ≠ .lfsr) : burstBytes c = (List.range 32).map (fun i =>
    patternByte c.pattern (c.userPattern.getD []) c.target (32 * c.burstsDone + i)) := by
  unfold burstBytes
  split
  · exact absurd ‹_› other
  all_goals rfl

/-- The load of a register from the word of seed and row (R122). -/
theorem lfsrLoad_spec {v : Word} {load : BitVec 15} (eq : load = if v.setWidth 15 = 0 then 1 else v.setWidth 15) :
    load ≠ 0 ∧ ((∀ n, n < 15 → v.getLsbD n = false) → load = 1) ∧
      (¬ (∀ n, n < 15 → v.getLsbD n = false) → ∀ n, n < 15 → load.getLsbD n = v.getLsbD n) := by
  have bits_ : ∀ n, n < 15 → (v.setWidth 15).getLsbD n = v.getLsbD n := fun n small => by
    rw [BitVec.getLsbD_setWidth, decide_eq_true small, Bool.true_and]
  have zero : v.setWidth 15 = 0 ↔ ∀ n, n < 15 → v.getLsbD n = false := by
    rw [eq_zero_iff_getLsbD]
    exact forall_congr' fun n => imp_congr_right fun small => by rw [bits_ n small]
  rw [eq]
  by_cases clear : v.setWidth 15 = 0
  · rw [if_pos clear]
    exact ⟨by decide, fun _ => rfl, fun set_ => absurd (zero.mp clear) set_⟩
  · rw [if_neg clear]
    exact ⟨clear, fun none_ => absurd (zero.mpr none_) clear, fun _ => bits_⟩

/-- Settles O46. -/
theorem patternBytesOfBurst : Obligations.PatternBytesOfBurst := by
  refine ⟨fun c i small other => ?_, fun c i j small bit_ lfsr => ?_, fun c => rfl, fun seed r => ?_,
    fun reg => lfsrStep_ne_zero, fun reg n small => ⟨getLsbD_lfsrStep_succ reg small, getLsbD_lfsrStep_zero reg⟩⟩
  · rw [burstBytes_of_other other, List.getElem?_map, List.getElem?_range small]
    cases c.pattern <;> rfl
  · rw [burstBytes_of_lfsr lfsr, getElem?_lfsrBytes small, Option.map_some, BitVec.getLsbD_ofNat, testBit_lfsrBits bit_,
      Nat.add_comm, lfsrSteps_add, decide_eq_true bit_, Bool.true_and]
  · exact lfsrLoad_spec rfl

/-! ### Events and masks (R176, R177) -/

/-- HIRQ# is active just where a flag and its mask are both set (R177). -/
theorem evaluate_interrupt (host : HostInterface) : (HostInterface.evaluate host).interrupt = true ↔
    ∃ i, i < 10 ∧ host.events.getLsbD i = true ∧ host.mask.getLsbD i = true := by
  unfold HostInterface.evaluate
  rw [decide_eq_true_iff, ne_eq, eq_zero_iff_getLsbD, not_forall]
  refine exists_congr fun i => ?_
  rw [Classical.not_imp, Bool.not_eq_false, BitVec.getLsbD_and, Bool.and_eq_true]

/-- Settles O51. -/
theorem eventAndMaskWrites : Obligations.EventAndMaskWrites := by
  refine fun s value run => ⟨⟨writeEvents value s, ?_, fun i small => ?_, evaluate_interrupt _, rfl⟩,
    writeMask value s, ?_, fun i small => ?_, evaluate_interrupt _, rfl⟩
  · show Host.Outcome.next (whenRunning (writeEvents value) s) = _
    rw [whenRunning_of_running run]
  · show (s.host.events &&& ~~~(value.setWidth 10)).getLsbD i = _
    rw [BitVec.getLsbD_and, BitVec.getLsbD_not, BitVec.getLsbD_setWidth, decide_eq_true small, Bool.true_and, Bool.true_and]
  · show Host.Outcome.next (whenRunning (writeMask value) s) = _
    rw [whenRunning_of_running run]
  · show (value.setWidth 10).getLsbD i = _
    rw [BitVec.getLsbD_setWidth, decide_eq_true small, Bool.true_and]

/-! ### The allocation (R101) -/

/-- The first member of a rising list that passes a test has no lower one before it. -/
theorem find?_of_rising {n : Nat} {l : List (Fin n)} (rising : l.Pairwise (· < ·)) (all : ∀ i, i ∈ l) {p : Fin n → Bool}
    {i : Fin n} (found : l.find? p = some i) : p i = true ∧ ∀ j, j < i → p j = false := by
  obtain ⟨passes, before, after, eq, none_⟩ := List.find?_eq_some_iff_append.mp found
  refine ⟨passes, fun j lower => ?_⟩
  rw [eq, List.pairwise_append, List.pairwise_cons] at rising
  obtain ⟨-, ⟨above, -⟩, -⟩ := rising
  have mem : j ∈ before ++ i :: after := eq ▸ all j
  obtain early | rfl | late : j ∈ before ∨ j = i ∨ j ∈ after := by simpa using mem
  · simpa using none_ j early
  · exact absurd lower (lt_irrefl j)
  · exact absurd lower (above j late).asymm

theorem find?_allIndices_none (p : ReservedIndex → Bool) : allIndices.find? p = none ↔ ∀ i, p i = false := by
  rw [List.find?_eq_none]
  have all : ∀ i : ReservedIndex, i ∈ allIndices := by decide
  exact ⟨fun none_ i => Bool.eq_false_iff.mpr (none_ i (all i)), fun none_ i _ => Bool.eq_false_iff.mp (none_ i)⟩

theorem find?_allIndices_some {p : ReservedIndex → Bool} {i : ReservedIndex} (found : allIndices.find? p = some i) :
    p i = true ∧ ∀ j, j < i → p j = false :=
  find?_of_rising (by decide) (by decide) found

theorem reservedRow_device_eq_iff (i : ReservedIndex) (d : DeviceId) : (reservedRow i).device = d ↔ i.val / 2 = d.val := by
  have device : ((reservedRow i).device : Nat) = i.val / 2 := Nat.mod_eq_of_lt (by omega)
  rw [Fin.ext_iff, device]

theorem indexFree_bound {i : ReservedIndex} (free : indexFree s i = true) : i.val < 2 * s.deviceCount :=
  of_decide_eq_true (Bool.and_eq_true_iff.mp free).1

/-- Settles O55. -/
theorem allocationPrefersOtherDevice : Obligations.AllocationPrefersOtherDevice := by
  intro s d
  have elsewhere : ∀ j, (indexFree s j && decide ((reservedRow j).device ≠ d)) = false → indexFree s j = true →
      j.val / 2 = d.val := fun j fails free => by
    rw [free, Bool.true_and, decide_eq_false_iff_not, not_not] at fails
    exact (reservedRow_device_eq_iff j d).mp fails
  unfold allocateIndex
  cases other : allIndices.find? (fun i => indexFree s i && decide ((reservedRow i).device ≠ d)) with
  | some i =>
    obtain ⟨passes, lower⟩ := find?_allIndices_some other
    obtain ⟨free, away⟩ := Bool.and_eq_true_iff.mp passes
    refine ⟨⟨nofun, fun none_ => absurd free (by rw [none_ i]; decide)⟩, ?_⟩
    rintro m ⟨⟩
    exact ⟨free, indexFree_bound free, .inl ⟨mt (reservedRow_device_eq_iff i d).mpr (of_decide_eq_true away),
      fun j below => elsewhere j (lower j below)⟩⟩
  | none =>
    refine ⟨find?_allIndices_none _, fun i found => ?_⟩
    obtain ⟨free, lower⟩ := find?_allIndices_some found
    have here : ∀ j, indexFree s j = true → j.val / 2 = d.val := fun j =>
      elsewhere j ((find?_allIndices_none _).mp other j)
    exact ⟨free, indexFree_bound free, .inr ⟨here i free, fun j freeJ => ⟨here j freeJ,
      not_lt.mp fun below => absurd freeJ (by rw [lower j below]; decide)⟩⟩⟩

end Sys2Proof.Machine
end

section
/-! PROOFS. The command unit: the tests of each command in their order, refusals and acceptance (R112, R119, R134, R150, R151,
R155, R170, R172, R173). -/

namespace Sys2Proof.Machine
open Sys2Proof

variable {s t : State}

/-! ### What a write of CMD does by the command's verdict -/

/-- A state in which CMD and CMD_STATUS hold a code and its refusal. -/
def refusedWith (code : Word) (refusal : CommandStatus) (s : State) : State :=
  { s with host := { s.host with command := code, status := refusal } }

/-- The refusal of a verdict. -/
def Verdict.refusal : Verdict → Option CommandStatus
  | .refused code => some code
  | .accepted _ => none

theorem takeCommand_of_unready (code : Word) (body : State → Verdict) (unready : isReady s = false) :
    takeCommand code body s = refusedWith code .notReady s := by
  obtain ⟨-, eq⟩ | ⟨ready, -⟩ | ⟨ready, -⟩ := takeCommand_cases s code body
  · exact eq
  · exact absurd ready (by rw [unready]; decide)
  · exact absurd ready (by rw [unready]; decide)

theorem takeCommand_of_refused {code : Word} {body : State → Verdict} {refusal : CommandStatus} (ready : isReady s = true)
    (verdict : (body { s with host := { s.host with command := code } }).refusal = some refusal) :
    takeCommand code body s = refusedWith code refusal s := by
  obtain ⟨unready, -⟩ | ⟨-, other, refused, eq⟩ | ⟨-, other, accepted, -⟩ := takeCommand_cases s code body
  · exact absurd ready (by rw [unready]; decide)
  · rw [refused] at verdict
    cases verdict
    exact eq
  · rw [accepted] at verdict
    cases verdict

/-! ### The tests of the commands -/

/-- The first of a list of tests that fails refuses. -/
def failing (tests : List (Bool × CommandStatus)) : Option CommandStatus :=
  (tests.find? (fun test => !test.1)).map Prod.snd

theorem failing_cons (passes : Bool) (code : CommandStatus) (rest : List (Bool × CommandStatus)) :
    failing ((passes, code) :: rest) = if passes = true then failing rest else some code := by
  cases passes <;> rfl

theorem failing_nil : failing [] = none := rfl

theorem rowFree_eq_rowIsFree (r : Row) : rowFree s r = rowIsFree s r := by
  rw [Bool.eq_iff_iff, rowFree_iff, rowIsFree, Bool.and_eq_true, Bool.not_eq_true']

theorem devicePresent_rowOperand (w : Word) :
    devicePresent s (rowOperand w).device = decide (bits w 12 2 < s.deviceCount) := by
  have device : ((rowOperand w).device : Nat) = bits w 12 2 := Nat.mod_eq_of_lt (Nat.mod_lt _ (by decide))
  unfold devicePresent
  rw [device]

theorem allocateIndex_none_iff (d : DeviceId) : allocateIndex s d = none ↔ allIndices.any (indexFree s) = false := by
  have all : ∀ i : ReservedIndex, i ∈ allIndices := by decide
  rw [(allocationPrefersOtherDevice s d).1, List.any_eq_false]
  exact ⟨fun none_ i _ => Bool.eq_false_iff.mp (none_ i), fun none_ i => Bool.eq_false_iff.mpr (none_ i (all i))⟩

theorem idleContext_none_iff :
    idleContext s = none ↔ allContexts.any (fun k => decide ((contextOf s k).state = .idle)) = false := by
  unfold idleContext
  rw [List.find?_eq_none, List.any_eq_false]

/-- The last two tests of an allocation: the reserved row. -/
theorem refusal_of_allocation (d : DeviceId) (accept : ReservedIndex → State) :
    (match allocateIndex s d with
      | none => Verdict.refused .noReserve
      | some i => Verdict.accepted (accept i)).refusal = failing [(allIndices.any (indexFree s), .noReserve)] := by
  rw [failing_cons, failing_nil]
  cases allocated : allocateIndex s d with
  | none =>
    rw [(allocateIndex_none_iff d).mp allocated]
    rfl
  | some i =>
    have some_ : allIndices.any (indexFree s) = true := by
      rw [← Bool.not_eq_false, ← allocateIndex_none_iff d, allocated]
      nofun
    rw [some_]
    rfl

theorem retireBody_refusal (ready : isReady s = true) : (retireBody s).refusal = firstRefusal 3 s := by
  show _ = failing ((isReady s, .notReady) :: _)
  rw [failing_cons, if_pos ready]
  show _ = failing [(_, .badArg), (_, .rowBusy), (_, .busy), (_, .noReserve)]
  unfold retireBody
  dsimp only
  rw [devicePresent_rowOperand, rowFree_eq_rowIsFree, failing_cons, failing_cons, failing_cons]
  cases decide (bits s.host.args.q3 12 2 < s.deviceCount) with
  | false => rfl
  | true =>
    cases rowIsFree s (rowOperand s.host.args.q3) with
    | false => rfl
    | true =>
      cases s.copy.retire with
      | some out => rfl
      | none => exact refusal_of_allocation _ fun i => startRetire (rowOperand s.host.args.q3) i s

theorem probeAbortBody_refusal (ready : isReady s = true) : (probeAbortBody s).refusal = firstRefusal 2 s := by
  show _ = failing ((isReady s, .notReady) :: _)
  rw [failing_cons, if_pos ready]
  show _ = failing [(_, .badArg), (_, .state)]
  unfold probeAbortBody
  dsimp only
  rw [failing_cons, failing_cons]
  by_cases small : s.host.args.q0.toNat < 4
  · rw [decide_eq_true small, if_neg (by omega)]
    cases abortable (contextOf s (Fin.ofNat 4 s.host.args.q0.toNat)).state <;> rfl
  · rw [decide_eq_false small, if_pos (by omega)]
    rfl

theorem recordReadBody_refusal (ready : isReady s = true) : (recordReadBody s).refusal = firstRefusal 4 s := by
  show _ = failing ((isReady s, .notReady) :: _)
  rw [failing_cons, if_pos ready]
  show _ = failing [(_, .badArg)]
  unfold recordReadBody
  dsimp only
  rw [devicePresent_rowOperand, failing_cons]
  cases decide (bits s.host.args.q3 12 2 < s.deviceCount) <;> rfl

theorem logReadBody_refusal (ready : isReady s = true) : (logReadBody s).refusal = firstRefusal 6 s := by
  show _ = failing ((isReady s, .notReady) :: _)
  rw [failing_cons, if_pos ready]
  show _ = failing [(_, .empty)]
  unfold logReadBody
  cases s.probes.log <;> rfl

theorem logPopBody_refusal (ready : isReady s = true) : (logPopBody s).refusal = firstRefusal 7 s := by
  show _ = failing ((isReady s, .notReady) :: _)
  rw [failing_cons, if_pos ready]
  show _ = failing [(_, .empty)]
  unfold logPopBody
  cases s.probes.log <;> rfl

theorem tempSupplyBody_refusal (ready : isReady s = true) : (tempSupplyBody s).refusal = firstRefusal 8 s := by
  show _ = failing ((isReady s, .notReady) :: _)
  rw [failing_cons, if_pos ready]
  show _ = failing [(s.config.external, .mode)]
  unfold tempSupplyBody
  cases s.config.external <;> rfl

/-- The statuses a RECORD WRITE may name, by their codes (Table 10-7). -/
theorem writableStatus_cases {n : Nat} {status : RecordStatus} (named : writableStatus n = some status) :
    (n = 0 ∧ status = .unprofiled) ∨ (n = 1 ∧ status = .profiled) ∨ (n = 2 ∧ status = .suspect) ∨ (n = 4 ∧ status = .retired) := by
  unfold writableStatus at named
  split at named <;> cases named <;> simp

theorem writableStatus_none {n : Nat} (unnamed : writableStatus n = none) : [0, 1, 2, 4].contains n = false := by
  unfold writableStatus at unnamed
  split at unnamed <;> cases unnamed
  rename_i h0 h1 h2 h4
  simpa using ⟨h0, h1, h2, h4⟩

/-- Five tests in a row, the first that fails refusing. -/
theorem refusal_of_five (a b c d e : Bool) (accept : State) :
    (if (!a) = true then Verdict.refused .badArg else if b = true then .refused .reserved
      else if (!c) = true then .refused .rowBusy else if d = true then .refused .inconsistent
      else if e = true then .refused .noReserve else .accepted accept).refusal =
    failing [(a, .badArg), (!b, .reserved), (c, .rowBusy), (!d, .inconsistent), (!e, .noReserve)] := by
  simp only [failing_cons, failing_nil]
  cases a with
  | false => rfl
  | true => cases b with
    | true => rfl
    | false => cases c with
      | false => rfl
      | true => cases d with
        | true => rfl
        | false => cases e <;> rfl

/-- The tests of RECORD WRITE (R173). -/
theorem recordWriteBody_refusal (ready : isReady s = true) : (recordWriteBody s).refusal = firstRefusal 5 s := by
  show _ = failing ((isReady s, .notReady) :: _)
  rw [failing_cons, if_pos ready]
  show _ = failing [(decide (bits s.host.args.q3 12 2 < s.deviceCount) && [0, 1, 2, 4].contains (bits s.host.args.q0 0 3) &&
      decide (bits s.host.args.q0 8 5 ≤ 16), .badArg), (!isReservedRow (rowOperand s.host.args.q3), .reserved),
    (rowIsFree s (rowOperand s.host.args.q3), .rowBusy),
    (!(decide (bits s.host.args.q0 0 3 = 1) && !classAllowed (bits s.host.args.q0 4 2) (bits s.host.args.q0 8 5)) &&
      !(decide (bits s.host.args.q0 0 3 = 2) && decide (2 ≤ bits s.host.args.q0 8 5)), .inconsistent),
    (!decide (bits s.host.args.q0 0 3 = 4) || (indexFree s (Fin.ofNat 8 (bits s.host.args.q2 0 3)) &&
      !abandonedTarget s (Fin.ofNat 8 (bits s.host.args.q2 0 3))), .noReserve)]
  unfold recordWriteBody
  dsimp only
  have statusOf : (recordOperand s.host.args).status = writableStatus (bits s.host.args.q0 0 3) := rfl
  cases named : writableStatus (bits s.host.args.q0 0 3) with
  | none =>
    rw [statusOf, named, writableStatus_none named, Bool.and_false, Bool.false_and, failing_cons]
    rfl
  | some status =>
    rw [statusOf, named]
    dsimp only
    have spare : (recordOperand s.host.args).spare = Fin.ofNat 8 (bits s.host.args.q2 0 3) := rfl
    have row : (recordOperand s.host.args).row = rowOperand s.host.args.q3 := rfl
    have margin : (recordOperand s.host.args).margin = bits s.host.args.q0 8 5 := rfl
    have cls : (recordOperand s.host.args).cls = bits s.host.args.q0 4 2 := rfl
    rw [row, spare, margin, devicePresent_rowOperand, rowFree_eq_rowIsFree]
    have argument : (!decide (bits s.host.args.q3 12 2 < s.deviceCount) || decide (16 < bits s.host.args.q0 8 5)) =
        !(decide (bits s.host.args.q3 12 2 < s.deviceCount) && [0, 1, 2, 4].contains (bits s.host.args.q0 0 3) &&
          decide (bits s.host.args.q0 8 5 ≤ 16)) := by
      have writable : [0, 1, 2, 4].contains (bits s.host.args.q0 0 3) = true := by
        obtain ⟨n, -⟩ | ⟨n, -⟩ | ⟨n, -⟩ | ⟨n, -⟩ := writableStatus_cases named <;> rw [n] <;> rfl
      have large : decide (16 < bits s.host.args.q0 8 5) = !decide (bits s.host.args.q0 8 5 ≤ 16) := by
        rw [Bool.eq_iff_iff, decide_eq_true_iff, Bool.not_eq_true', decide_eq_false_iff_not, not_le]
      rw [writable, Bool.and_true, Bool.not_and, large]
    have fits : inconsistent (recordOperand s.host.args) status =
        !(!(decide (bits s.host.args.q0 0 3 = 1) && !classAllowed (bits s.host.args.q0 4 2) (bits s.host.args.q0 8 5)) &&
          !(decide (bits s.host.args.q0 0 3 = 2) && decide (2 ≤ bits s.host.args.q0 8 5))) := by
      obtain ⟨n, rfl⟩ | ⟨n, rfl⟩ | ⟨n, rfl⟩ | ⟨n, rfl⟩ := writableStatus_cases named <;>
        simp [n, inconsistent, cls, margin]
    have free : (status == .retired && (!indexFree s (Fin.ofNat 8 (bits s.host.args.q2 0 3)) ||
          abandonedTarget s (Fin.ofNat 8 (bits s.host.args.q2 0 3)))) =
        !(!decide (bits s.host.args.q0 0 3 = 4) || (indexFree s (Fin.ofNat 8 (bits s.host.args.q2 0 3)) &&
          !abandonedTarget s (Fin.ofNat 8 (bits s.host.args.q2 0 3)))) := by
      obtain ⟨n, rfl⟩ | ⟨n, rfl⟩ | ⟨n, rfl⟩ | ⟨n, rfl⟩ := writableStatus_cases named <;> simp [n]
    rw [argument, fits, free]
    refine (refusal_of_five ..).trans ?_
    simp only [Bool.not_not]

theorem probeMode_cases {n : Nat} {mode : ProbeMode} (named : ProbeMode.ofCode n = some mode) :
    (n = 0 ∧ mode = .search) ∨ (n = 1 ∧ mode = .check) := by
  unfold ProbeMode.ofCode at named
  split at named <;> cases named <;> simp

theorem probeMode_none {n : Nat} (unnamed : ProbeMode.ofCode n = none) : decide (n ≤ 1) = false :=
  match n with
  | 0 => nomatch unnamed
  | 1 => nomatch unnamed
  | n + 2 => decide_eq_false (by omega)

theorem pattern_none_iff {n : Nat} : Pattern.ofCode n = none ↔ decide (n ≤ 4) = false :=
  match n with
  | 0 | 1 | 2 | 3 | 4 => ⟨nofun, nofun⟩
  | n + 5 => ⟨fun _ => decide_eq_false (by omega), fun _ => rfl⟩

/-- The tests of PROBE START (R119). -/
theorem probeStartBody_refusal (ready : isReady s = true) : (probeStartBody s).refusal = firstRefusal 1 s := by
  show _ = failing ((isReady s, .notReady) :: _)
  rw [failing_cons, if_pos ready]
  show _ = failing [(decide (bits s.host.args.q3 12 2 < s.deviceCount) && decide (bits s.host.args.q0 4 2 ≤ 1) &&
      decide (bits s.host.args.q0 0 3 ≤ 4) && decide (1 ≤ bits s.host.args.q0 8 3) && decide (bits s.host.args.q0 8 3 ≤ 4) &&
      (decide (bits s.host.args.q0 4 2 = 0) ||
        (decide (1 ≤ bits s.host.args.q0 11 5) && decide (bits s.host.args.q0 11 5 ≤ 16))), .badArg),
    (rowIsFree s (rowOperand s.host.args.q3), .rowBusy), (decide (s.supervisor.thermal ≠ .hot), .thermal),
    (allContexts.any (fun k => decide ((contextOf s k).state = .idle)), .noContext),
    (allIndices.any (indexFree s), .noReserve)]
  unfold probeStartBody
  dsimp only
  have modeOf : (probeOperand s.host.args s.host.patternArgs).mode = ProbeMode.ofCode (bits s.host.args.q0 4 2) := rfl
  have patternOf : (probeOperand s.host.args s.host.patternArgs).pattern = Pattern.ofCode (bits s.host.args.q0 0 3) := rfl
  cases mode : ProbeMode.ofCode (bits s.host.args.q0 4 2) with
  | none =>
    rw [modeOf, mode, probeMode_none mode, Bool.and_false, Bool.false_and, Bool.false_and, Bool.false_and, Bool.false_and,
      failing_cons]
    rfl
  | some m =>
    cases pattern : Pattern.ofCode (bits s.host.args.q0 0 3) with
    | none =>
      rw [modeOf, mode, patternOf, pattern, pattern_none_iff.mp pattern, Bool.and_false, Bool.false_and, Bool.false_and,
        Bool.false_and, failing_cons]
      rfl
    | some p =>
      rw [modeOf, mode, patternOf, pattern]
      dsimp only
      have known : decide (bits s.host.args.q0 0 3 ≤ 4) = true := by
        rw [← Bool.not_eq_false, ← pattern_none_iff, pattern]
        nofun
      have valid : stepValid m (probeOperand s.host.args s.host.patternArgs).step = (decide (bits s.host.args.q0 4 2 = 0) ||
          (decide (1 ≤ bits s.host.args.q0 11 5) && decide (bits s.host.args.q0 11 5 ≤ 16))) := by
        obtain ⟨n, rfl⟩ | ⟨n, rfl⟩ := probeMode_cases mode <;> rw [n] <;> rfl
      have small : decide (bits s.host.args.q0 4 2 ≤ 1) = true := by
        obtain ⟨n, -⟩ | ⟨n, -⟩ := probeMode_cases mode <;> rw [n] <;> rfl
      have row : (probeOperand s.host.args s.host.patternArgs).target = rowOperand s.host.args.q3 := rfl
      have trials : (probeOperand s.host.args s.host.patternArgs).trials = bits s.host.args.q0 8 3 := rfl
      rw [valid, row, trials, small, known, devicePresent_rowOperand, rowFree_eq_rowIsFree, Bool.and_true, Bool.and_true]
      generalize (decide (bits s.host.args.q0 4 2 = 0) ||
        (decide (1 ≤ bits s.host.args.q0 11 5) && decide (bits s.host.args.q0 11 5 ≤ 16))) = stepOk
      generalize decide (bits s.host.args.q3 12 2 < s.deviceCount) = present
      have few : decide (bits s.host.args.q0 8 3 < 1) = !decide (1 ≤ bits s.host.args.q0 8 3) := by
        rw [Bool.eq_iff_iff, decide_eq_true_iff, Bool.not_eq_true', decide_eq_false_iff_not, not_le]
      have many : decide (4 < bits s.host.args.q0 8 3) = !decide (bits s.host.args.q0 8 3 ≤ 4) := by
        rw [Bool.eq_iff_iff, decide_eq_true_iff, Bool.not_eq_true', decide_eq_false_iff_not, not_le]
      rw [few, many, ← Bool.not_and, ← Bool.not_and, ← Bool.not_and, failing_cons]
      cases present && decide (1 ≤ bits s.host.args.q0 8 3) && decide (bits s.host.args.q0 8 3 ≤ 4) && stepOk with
      | false => rfl
      | true =>
        rw [failing_cons, failing_cons, failing_cons]
        cases rowIsFree s (rowOperand s.host.args.q3) with
        | false => rfl
        | true =>
          by_cases hot : s.supervisor.thermal = .hot
          · rw [if_pos hot, decide_eq_false (not_not.mpr hot)]
            rfl
          · rw [if_neg hot, decide_eq_true hot]
            cases idle : idleContext s with
            | none =>
              rw [idleContext_none_iff.mp idle]
              rfl
            | some k =>
              have some_ : allContexts.any (fun k => decide ((contextOf s k).state = .idle)) = true := by
                rw [← Bool.not_eq_false, ← idleContext_none_iff, idle]
                nofun
              rw [some_]
              exact refusal_of_allocation (rowOperand s.host.args.q3).device fun i =>
                startProbe (probeOperand s.host.args s.host.patternArgs) m p k i s

end Sys2Proof.Machine
end

section
/-! PROOFS. Every command's answer by its first refusal, and the commands of the log (R147, R150, R151, R170). -/

namespace Sys2Proof.Machine
open Sys2Proof

variable {s t : State}

/-! ### Every code -/

theorem code_cases (code : Word) : code = 1 ∨ code = 2 ∨ code = 3 ∨ code = 4 ∨ code = 5 ∨ code = 6 ∨ code = 7 ∨ code = 8 ∨
    (code.toNat = 0 ∨ 8 < code.toNat) := by
  simp only [← BitVec.toNat_inj]
  show code.toNat = 1 ∨ code.toNat = 2 ∨ code.toNat = 3 ∨ code.toNat = 4 ∨ code.toNat = 5 ∨ code.toNat = 6 ∨
    code.toNat = 7 ∨ code.toNat = 8 ∨ _
  omega

/-- A code outside 1 to 8 names no command (R170). -/
theorem unassigned_command {code : Word} (unassigned : code.toNat = 0 ∨ 8 < code.toNat) :
    commandOfCode code = .badCmd code ∧ commandBody code = badCmdBody ∧
      commandTests code s = [(isReady s, .notReady), (false, .badCmd)] := by
  obtain zero | large := unassigned
  · simp only [commandOfCode, commandBody, commandTests, zero, and_self]
  · obtain ⟨m, eq⟩ : ∃ m, code.toNat = m + 9 := ⟨code.toNat - 9, by omega⟩
    simp only [commandOfCode, commandBody, commandTests, eq, and_self]

theorem exec_commandOfCode (code : Word) :
    exec (commandOfCode code) s = .next (whenRunning (takeCommand code (commandBody code)) s) := by
  obtain rfl | rfl | rfl | rfl | rfl | rfl | rfl | rfl | unassigned := code_cases code
  case inr.inr.inr.inr.inr.inr.inr.inr =>
    rw [(unassigned_command (s := s) unassigned).1]
    rfl
  all_goals rfl

/-- In READY the first of a command's tests that fails gives its verdict. -/
theorem commandBody_refusal (code : Word) (ready : isReady s = true) :
    (commandBody code s).refusal = firstRefusal code s := by
  obtain rfl | rfl | rfl | rfl | rfl | rfl | rfl | rfl | unassigned := code_cases code
  · exact probeStartBody_refusal ready
  · exact probeAbortBody_refusal ready
  · exact retireBody_refusal ready
  · exact recordReadBody_refusal ready
  · exact recordWriteBody_refusal ready
  · exact logReadBody_refusal ready
  · exact logPopBody_refusal ready
  · exact tempSupplyBody_refusal ready
  · obtain ⟨-, body, tests⟩ := unassigned_command (s := s) unassigned
    show _ = failing (commandTests code s)
    rw [body, tests, failing_cons, if_pos ready]
    rfl

theorem firstRefusal_of_unready (code : Word) (unready : isReady s = false) : firstRefusal code s = some .notReady := by
  show failing ((isReady s, .notReady) :: _) = _
  rw [failing_cons, unready]
  rfl

theorem isReady_of_no_refusal {code : Word} (passes : firstRefusal code s = none) : isReady s = true := by
  rw [← Bool.not_eq_false]
  intro unready
  rw [firstRefusal_of_unready code unready] at passes
  cases passes

theorem takeCommand_of_refusal {code : Word} {refusal : CommandStatus} (refuses : firstRefusal code s = some refusal) :
    takeCommand code (commandBody code) s = refusedWith code refusal s := by
  cases ready : isReady s with
  | false =>
    rw [firstRefusal_of_unready code ready] at refuses
    cases refuses
    exact takeCommand_of_unready code _ ready
  | true =>
    exact takeCommand_of_refused ready
      ((commandBody_refusal (s := { s with host := { s.host with command := code } }) code ready).trans refuses)

/-- An accepted command changes neither CMD nor HOST_ERR. -/
theorem Accepted.command (accepted : Accepted s t) : t.host.command = s.host.command ∧ t.host.error = s.host.error := by
  have probes : ∀ {v w : State}, ProbeChange v w → w.host.command = v.host.command ∧ w.host.error = v.host.error := by
    rintro v w ⟨_, _, _, _, _, _, _, _, rfl⟩
    exact ⟨rfl, rfl⟩
  cases accepted with
  | probeAbort k running => exact probes (abortContext_probeChange s .host k)
  | recordWrite o status =>
    obtain ⟨v, -, -, host, eq⟩ := writeRecord_jobChange (s := s) o status
    rw [eq]
    unfold showRecord
    rw [setResults_host, host]
    exact ⟨rfl, rfl⟩
  | logPop e rest head => exact probes (serveWaiting_probeChange { s with probes := { s.probes with log := rest } })
  | tempSupply reading =>
    obtain ⟨_, _, _, _, _, _, _, _, _, _, eq⟩ := readingArrives_passChange s reading
    rw [eq]
    exact ⟨rfl, rfl⟩
  | probeStart | retire | recordRead | logRead => exact ⟨rfl, rfl⟩

/-- Settles O54. -/
theorem commandRefusalsInOrder : Obligations.CommandRefusalsInOrder := by
  intro code s run
  have next : exec (commandOfCode code) s = .next (takeCommand code (commandBody code) s) := by
    rw [exec_commandOfCode, whenRunning_of_running run]
  refine ⟨fun refusal refuses => ?_, fun passes => ?_, fun unassigned => ?_⟩
  · rw [next, takeCommand_of_refusal refuses]
    rfl
  · have ready := isReady_of_no_refusal passes
    have verdict := (commandBody_refusal (s := { s with host := { s.host with command := code } }) code ready).trans passes
    cases body : commandBody code { s with host := { s.host with command := code } } with
    | refused refusal =>
      rw [body] at verdict
      cases verdict
    | accepted t =>
      obtain ⟨command, error⟩ := (commandBody_accepted code body).command
      refine ⟨_, next, ?_⟩
      rw [takeCommand_of_accepted ready body, arbitrate_host]
      exact ⟨command, rfl, error⟩
  · obtain ⟨command, -, tests⟩ := unassigned_command (s := s) unassigned
    rw [← command, next, takeCommand_of_refusal (refusal := if isReady s then .badCmd else .notReady)]
    · rfl
    · show failing (commandTests code s) = _
      rw [tests, failing_cons, failing_cons]
      cases isReady s <;> rfl

/-! ### The log -/

theorem logEntryOf_eq (k : ContextId) (c : ProbeContext) :
    logEntryOf k c = loggedEntry k c (c.outcome.getD { name := .aborted, record := none }) := by
  cases pending : c.outcome with
  | some outcome =>
    have same : { c with outcome := some outcome } = c := by rw [← pending]
    rw [Option.getD_some, ← logEntryOf_eq_loggedEntry, same]
  | none =>
    unfold logEntryOf loggedEntry
    rw [pending]
    rfl

theorem serveWaiting_of_none (none_ : s.probes.waiting = []) : serveWaiting s = s := by
  unfold serveWaiting
  rw [none_]

/-- The first context that waits appends its entry where the log has room (R147, R151). -/
theorem serveWaiting_of_room {k : ContextId} {more : List ContextId} (waiting : s.probes.waiting = k :: more)
    (room : s.probes.log.length < 8) : serveWaiting s = withEvents 0x010#10 { s with
      probes := { contexts := s.probes.contexts.set k { contextOf s k with state := .idle }
                  log := s.probes.log ++
                    [loggedEntry k (contextOf s k) ((contextOf s k).outcome.getD { name := .aborted, record := none })]
                  waiting := more } } := by
  unfold serveWaiting
  rw [waiting]
  have has : logRoom s = true := decide_eq_true room
  dsimp only
  rw [if_pos has, appendLog_eq, raiseEvent_eq_withEvents, ← logEntryOf_eq]
  rfl

/-- The state in which the head of the log has left it at a LOG POP. -/
def logPopped (rest : List LogEntry) (s : State) : State :=
  { s with host := { s.host with command := 7 }, probes := { s.probes with log := rest } }

theorem exec_logPop {e : LogEntry} {rest : List LogEntry} (ready : isReady s = true) (log : s.probes.log = e :: rest) :
    exec .logPop s = .next (arbitrate (setCommandStatus .accepted (serveWaiting (logPopped rest s)))) := by
  have next : exec .logPop s = .next (takeCommand 7 logPopBody s) :=
    (exec_commandOfCode 7).trans (by rw [whenRunning_of_running (running_of_isReady ready)]; rfl)
  have verdict : logPopBody { s with host := { s.host with command := 7 } } = .accepted (serveWaiting (logPopped rest s)) := by
    unfold logPopBody
    dsimp only
    rw [log]
    rfl
  rw [next, takeCommand_of_accepted ready verdict]

/-- Settles O47. -/
theorem logReadPopAndWaitAppend : Obligations.LogReadPopAndWaitAppend := by
  refine ⟨fun s run unready => ⟨?_, ?_⟩, fun s ready empty => ⟨?_, ?_⟩, fun s e rest ready log => ?_,
    fun s e rest ready log => ⟨fun none_ => ?_, fun k more waiting room => ?_⟩, fun s k more run waiting room => ?_⟩
  · exact (commandRefusalsInOrder 6 s run).1 _ (firstRefusal_of_unready 6 unready)
  · exact (commandRefusalsInOrder 7 s run).1 _ (firstRefusal_of_unready 7 unready)
  · refine (commandRefusalsInOrder 6 s (running_of_isReady ready)).1 _ ?_
    rw [← logReadBody_refusal ready, logReadBody, empty]
    rfl
  · refine (commandRefusalsInOrder 7 s (running_of_isReady ready)).1 _ ?_
    rw [← logPopBody_refusal ready, logPopBody, empty]
    rfl
  · intro mode outcome newClass abortReason failingStep
    have next : exec .logRead s = .next (takeCommand 6 logReadBody s) :=
      (exec_commandOfCode 6).trans (by rw [whenRunning_of_running (running_of_isReady ready)]; rfl)
    have verdict : logReadBody { s with host := { s.host with command := 6 } } = .accepted
        (setResults (logWords e).q0 (logWords e).q1 (logWords e).q2 (logWords e).q3
          { s with host := { s.host with command := 6 } }) := by
      unfold logReadBody
      dsimp only
      rw [log]
    rw [next, takeCommand_of_accepted ready verdict]
    have class_ : newClass = e.newClass.getD 0 * 256 + bit e.newClass.isSome * 1024 := by
      show (match e.newClass with | some k => 1024 + k * 256 | none => 0) = _
      cases e.newClass with
      | none => rfl
      | some k =>
        simp only [Option.getD_some, Option.isSome_some, bit, if_true]
        omega
    have step : failingStep = e.failingStep.getD 0 * 256 + bit e.failingStep.isSome * 32768 := by
      show (match e.failingStep with | some step => 32768 + step * 256 | none => 0) = _
      cases e.failingStep with
      | none => rfl
      | some step =>
        simp only [Option.getD_some, Option.isSome_some, bit, if_true]
        omega
    have first : (if e.firstFailing.isSome then 16384 else 0) = bit e.firstFailing.isSome * 16384 := by
      cases e.firstFailing.isSome <;> rfl
    have q0 : (logWords e).q0 = BitVec.ofNat 16 (e.context.val + mode * 4 + outcome * 16 + newClass + abortReason * 4096) := by
      rw [class_, ← Nat.add_assoc]
      rfl
    have q1 : (logWords e).q1 = BitVec.ofNat 16 (e.row.device.val * 4096 + e.row.number.val) := by
      rw [Nat.add_comm]
      rfl
    have q2 : (logWords e).q2 = BitVec.ofNat 16 (e.margin + failingStep + if e.firstFailing.isSome then 16384 else 0) := by
      rw [step, first, ← Nat.add_assoc, Nat.add_right_comm]
      rfl
    rw [q0, q1, q2]
    rfl
  · rw [exec_logPop ready log, serveWaiting_of_none (s := logPopped rest s) none_]
    rfl
  · rw [exec_logPop ready log, serveWaiting_of_room (s := logPopped rest s) waiting room]
    rfl
  · show Host.Outcome.next (whenRunning serveWaiting s) = _
    rw [whenRunning_of_running run, serveWaiting_of_room waiting room]
    rfl

end Sys2Proof.Machine
end

section
/-! PROOFS. PROBE START, PROBE ABORT, RETIRE, RECORD READ and RECORD WRITE (R112, R119, R120, R134 to R136, R172 to R174). -/

namespace Sys2Proof.Machine
open Sys2Proof

variable {s t : State}

/-! ### Commands that pass their tests -/

/-- A command whose tests pass runs its body and reports ACCEPTED. -/
theorem exec_command_of_accepted {code : Word} (ready : isReady s = true)
    (verdict : commandBody code { s with host := { s.host with command := code } } = .accepted t) :
    exec (commandOfCode code) s = .next (arbitrate (setCommandStatus .accepted t)) := by
  rw [exec_commandOfCode, whenRunning_of_running (running_of_isReady ready), takeCommand_of_accepted ready verdict]

theorem exec_command_of_refusal {code : Word} {refusal : CommandStatus} (run : running s = true)
    (refuses : firstRefusal code s = some refusal) :
    exec (commandOfCode code) s = .next { s with host := { s.host with command := code, status := refusal } } :=
  (commandRefusalsInOrder code s run).1 refusal refuses

/-! ### RETIRE (R112) -/

theorem rowIsFree_iff (r : Row) : rowIsFree s r = true ↔
    ((recordOf s r).status ≠ .reserved ∧ (recordOf s r).status ≠ .retired ∧ (recordOf s r).status ≠ .probing) ∧
      ∀ p ∈ s.redirects, p.2.home ≠ r := by
  unfold rowIsFree
  rw [Bool.and_eq_true]
  refine and_congr ?_ ?_
  · cases (recordOf s r).status <;> simp [RecordStatus.open]
  · unfold hasRedirect redirectOf
    simp only [Option.isSome_map, Bool.not_eq_true', ← Bool.not_eq_true, List.find?_isSome, decide_eq_true_eq, not_exists,
      not_and, ne_eq]

/-- The tests of RETIRE in their order. -/
theorem firstRefusal_retire : firstRefusal 3 s = failing [(isReady s, .notReady),
    (devicePresent s (rowOperand s.host.args.q3).device, .badArg), (rowIsFree s (rowOperand s.host.args.q3), .rowBusy),
    (s.copy.retire.isNone, .busy), (allIndices.any (indexFree s), .noReserve)] := by
  rw [devicePresent_rowOperand]
  rfl

theorem retireBody_of_accepted {i : ReservedIndex} (present : devicePresent s (rowOperand s.host.args.q3).device = true)
    (free : rowIsFree s (rowOperand s.host.args.q3) = true) (single : s.copy.retire = none)
    (allocated : allocateIndex s (rowOperand s.host.args.q3).device = some i) :
    retireBody s = .accepted (startRetire (rowOperand s.host.args.q3) i s) := by
  unfold retireBody
  dsimp only
  rw [present, rowFree_eq_rowIsFree, free, single, allocated]
  rfl

/-- Settles O58. -/
theorem retireTestsAndAcceptance : Obligations.RetireTestsAndAcceptance := by
  intro s run row present free refusedWith_
  have refuses : ∀ {code}, firstRefusal 3 s = some code → refusedWith_ code := fun h => exec_command_of_refusal run h
  have here : present → devicePresent s row.device = true := decide_eq_true
  have away : ¬ present → devicePresent s row.device = false := decide_eq_false
  have freeIff : rowIsFree s row = true ↔ free := rowIsFree_iff row
  refine ⟨fun unready => refuses (firstRefusal_of_unready 3 unready), fun ready absent => refuses ?_,
    fun ready there busy => refuses ?_, fun ready there open_ out => refuses ?_,
    fun ready there open_ single none_ => refuses ?_, fun i ready there open_ single allocated => ?_⟩
  · rw [firstRefusal_retire, ready, away absent]
    rfl
  · rw [firstRefusal_retire, ready, here there, Bool.eq_false_iff.mpr (mt freeIff.mp busy)]
    rfl
  · have busy : s.copy.retire.isNone = false := by
      rw [Option.isNone_eq_false_iff]
      exact out
    rw [firstRefusal_retire, ready, here there, freeIff.mpr open_, busy]
    rfl
  · rw [firstRefusal_retire, ready, here there, freeIff.mpr open_, single, (allocateIndex_none_iff _).mp none_]
    rfl
  · have verdict := retireBody_of_accepted (s := { s with host := { s.host with command := 3 } }) (here there)
      (freeIff.mpr open_) single allocated
    exact exec_command_of_accepted (code := 3) ready verdict

/-! ### RECORD READ (R172) -/

theorem firstRefusal_recordRead : firstRefusal 4 s = failing [(isReady s, .notReady),
    (devicePresent s (rowOperand s.host.args.q3).device, .badArg)] := by
  rw [devicePresent_rowOperand]
  rfl

theorem recordReadBody_of_accepted (present : devicePresent s (rowOperand s.host.args.q3).device = true) :
    recordReadBody s = .accepted (showRecord (rowOperand s.host.args.q3) s) := by
  unfold recordReadBody
  dsimp only
  rw [present]
  rfl

/-- Settles O59. -/
theorem recordReadTestsAndResult : Obligations.RecordReadTestsAndResult := by
  intro s run row record code
  refine ⟨fun unready => exec_command_of_refusal (code := 4) run (firstRefusal_of_unready 4 unready),
    fun ready absent => exec_command_of_refusal (code := 4) run ?_, fun ready present => ?_, fun law probing => ?_⟩
  · rw [firstRefusal_recordRead, ready, devicePresent, decide_eq_false (Nat.not_lt.mpr absent)]
    rfl
  · have verdict := recordReadBody_of_accepted (s := { s with host := { s.host with command := 4 } }) (decide_eq_true present)
    refine (exec_command_of_accepted (code := 4) ready verdict).trans ?_
    have status : code = record.status.code := by
      show (match record.status with
        | .unprofiled => 0 | .profiled => 1 | .suspect => 2 | .probing => 3 | .retired => 4 | .reserved => 5) = _
      cases record.status <;> rfl
    have flag : (if record.queued then 32768 else 0) = bit record.queued * 32768 := by cases record.queued <;> rfl
    have q1 : (recordWords row record).q1 = BitVec.ofNat 16 (match record.stamp with
        | some stamp => 32768 + stamp
        | none => 0) := by
      unfold recordWords wordOf
      cases record.stamp with
      | none => rfl
      | some stamp => exact congrArg (BitVec.ofNat 16) (Nat.add_comm stamp (1 * 32768))
    have q2 : (recordWords row record).q2 = BitVec.ofNat 16 (match record.spare with
        | some i => 32768 + i.val
        | none => 0) := by
      unfold recordWords wordOf
      cases record.spare with
      | none => rfl
      | some i => exact congrArg (BitVec.ofNat 16) (Nat.add_comm i.val (1 * 32768))
    have q3 : (recordWords row record).q3 = BitVec.ofNat 16 (row.device.val * 4096 + row.number.val) :=
      congrArg (BitVec.ofNat 16) (Nat.add_comm ..)
    have words : recordWords row record = {
        q0 := BitVec.ofNat 16 (code + record.cls * 16 + record.margin * 256 + if record.queued then 32768 else 0)
        q1 := BitVec.ofNat 16 (match record.stamp with
          | some stamp => 32768 + stamp
          | none => 0)
        q2 := BitVec.ofNat 16 (match record.spare with
          | some i => 32768 + i.val
          | none => 0)
        q3 := BitVec.ofNat 16 (row.device.val * 4096 + row.number.val) } := by
      rw [status, flag, ← q1, ← q2, ← q3]
      rfl
    exact congrArg (fun q => (Host.Outcome.next (arbitrate { s with
      host := { s.host with command := 4, status := .accepted, results := q } }) : Host.Outcome State Fault Refusal)) words
  · obtain ⟨fits, stamp, -, -⟩ := law.2.1 row
    have status : (recordOf s row).status = .probing := probing
    rw [status] at fits stamp
    obtain ⟨cls, margin⟩ := Bool.and_eq_true_iff.mp fits
    exact ⟨of_decide_eq_true cls, of_decide_eq_true margin, stamp⟩

/-! ### RECORD WRITE (R173, R174) -/

/-- A test in a chain that does not refuse is passed, and what follows it decides. -/
theorem ite_refused_of_none {c : Prop} [Decidable c] {code : CommandStatus} {v : Verdict}
    (passes : (if c then .refused code else v).refusal = none) : (if c then .refused code else v) = v ∧ v.refusal = none := by
  by_cases fails : c
  · rw [if_pos fails] at passes
    cases passes
  · rw [if_neg fails] at passes ⊢
    exact ⟨rfl, passes⟩

theorem statusCode_inj {a b : RecordStatus} (same : a.code = b.code) : a = b := by
  cases a <;> cases b <;> simp [RecordStatus.code] at same ⊢

theorem recordWriteBody_of_no_refusal (passes : (recordWriteBody s).refusal = none) :
    ∃ status, writableStatus (bits s.host.args.q0 0 3) = some status ∧
      recordWriteBody s = .accepted (writeRecord (recordOperand s.host.args) status s) := by
  have statusOf : (recordOperand s.host.args).status = writableStatus (bits s.host.args.q0 0 3) := rfl
  unfold recordWriteBody at passes ⊢
  dsimp only at passes ⊢
  rw [statusOf] at passes ⊢
  cases named : writableStatus (bits s.host.args.q0 0 3) with
  | none =>
    rw [named] at passes
    cases passes
  | some status =>
    rw [named] at passes
    dsimp only at passes ⊢
    obtain ⟨present, passes⟩ := ite_refused_of_none passes
    obtain ⟨ordinary, passes⟩ := ite_refused_of_none passes
    obtain ⟨free, passes⟩ := ite_refused_of_none passes
    obtain ⟨fits, passes⟩ := ite_refused_of_none passes
    obtain ⟨reserve, -⟩ := ite_refused_of_none passes
    exact ⟨status, rfl, present.trans (ordinary.trans (free.trans (fits.trans reserve)))⟩

/-- What the acceptance of a RECORD WRITE leaves, whatever the status. -/
structure RecordWritten (o : RecordOperand) (s u : State) : Prop where
  other : ∀ r, r ≠ o.row → recordOf u r = recordOf s r
  copy : u.copy = s.copy
  probes : u.probes = s.probes
  host : u.host = { s.host with results := recordWords o.row (recordOf u o.row) }

theorem writeRecord_written (o : RecordOperand) (status : RecordStatus) : RecordWritten o s (writeRecord o status s) := by
  have shown : ∀ v : State, (∀ r, r ≠ o.row → recordOf v r = recordOf s r) → v.copy = s.copy → v.probes = s.probes →
      v.host = s.host → RecordWritten o s (showRecord o.row v) := fun v other copy probes host =>
    ⟨other, copy, probes, by unfold showRecord; rw [setResults_host, host]; rfl⟩
  unfold writeRecord
  split_ifs
  · refine shown _ (fun r other => ?_) (retireRecord_copy ..) (retireRecord_probes ..) (retireRecord_host ..)
    rw [recordOf_retireRecord, if_neg other]
    rfl
  · exact shown _ (fun r other => (recordOf_setRecord ..).trans (if_neg other)) rfl rfl rfl

theorem writeRecord_of_ordinary (o : RecordOperand) {status : RecordStatus} (ordinary : status ≠ .retired) :
    recordOf (writeRecord o status s) o.row = writtenRecord o status s.scheduler.epoch (recordOf s o.row) ∧
      (writeRecord o status s).scheduler = s.scheduler ∧ (writeRecord o status s).redirects = s.redirects := by
  unfold writeRecord
  rw [if_neg ordinary]
  exact ⟨recordOf_setRecord_same .., rfl, rfl⟩

/-- A write of RETIRED binds the row to its spare (R174). -/
theorem writeRecord_of_retired (o : RecordOperand) (flagged : Flagged s) :
    recordOf (writeRecord o .retired s) o.row =
      { status := .retired, cls := 0, margin := 0, stamp := none, queued := false, spare := some o.spare } ∧
    (writeRecord o .retired s).redirects =
      Sparse.insert o.spare.val { home := o.row, state := .spareActive, owner := .command } s.redirects ∧
    (writeRecord o .retired s).scheduler.due = s.scheduler.due.filter (fun e => decide (e.row ≠ o.row)) := by
  unfold writeRecord
  rw [if_pos rfl]
  refine ⟨(recordOf_retireRecord ..).trans (if_pos rfl), retireRecord_redirects o.row o.spare, ?_⟩
  show (retireRecord o.row o.spare _).scheduler.due = _
  rw [retireRecord_due, departIfQueued_due]
  · rfl
  · exact flagged o.row

/-- Settles O60. -/
theorem recordWriteAccepted : Obligations.RecordWriteAccepted := by
  intro s passes row w spare old
  have ready := isReady_of_no_refusal passes
  obtain ⟨status, named, verdict⟩ := recordWriteBody_of_no_refusal (s := { s with host := { s.host with command := 5 } })
    ((recordWriteBody_refusal (s := { s with host := { s.host with command := 5 } }) ready).trans passes)
  refine ⟨_, exec_command_of_accepted (code := 5) ready verdict, ?_⟩
  obtain ⟨other, copy, probes, host⟩ := writeRecord_written (s := { s with host := { s.host with command := 5 } })
    (recordOperand s.host.args) status
  have ordinary := fun h : status ≠ .retired => writeRecord_of_ordinary (s := { s with host := { s.host with command := 5 } })
    (recordOperand s.host.args) h
  have retired := fun (flagged : Flagged s) => writeRecord_of_retired (s := { s with host := { s.host with command := 5 } })
    (recordOperand s.host.args) flagged
  have code : bits w 0 3 = status.code := by
    obtain ⟨n, rfl⟩ | ⟨n, rfl⟩ | ⟨n, rfl⟩ | ⟨n, rfl⟩ := writableStatus_cases named <;> exact n
  have named_ := fun (named : RecordStatus) (n : bits w 0 3 = named.code) => statusCode_inj (code.symm.trans n)
  have hostAll : (setCommandStatus .accepted (writeRecord (recordOperand s.host.args) status
      { s with host := { s.host with command := 5 } })).host = { s.host with
        command := 5, status := .accepted, results := recordWords row (recordOf (writeRecord (recordOperand s.host.args) status
          { s with host := { s.host with command := 5 } }) row) } := by
    rw [setCommandStatus_host, host]
    rfl
  refine ⟨fun n => ?_, fun n => ?_, fun n => ?_, fun n => ?_, fun n law => ?_, other, copy, probes, hostAll⟩
  · cases named_ .unprofiled n
    exact (ordinary (by decide)).1
  · cases named_ .profiled n
    exact (ordinary (by decide)).1
  · cases named_ .suspect n
    exact (ordinary (by decide)).1
  · exact (ordinary fun is => n (code.trans (congrArg RecordStatus.code is))).2
  · cases named_ .retired n
    exact retired law.2.1

/-! ### PROBE START (R119, R120) -/

theorem idleContext_of_lowest {k : ContextId} (idle : (contextOf s k).state = .idle)
    (lowest : ∀ m, m < k → (contextOf s m).state ≠ .idle) : idleContext s = some k := by
  cases found : idleContext s with
  | none =>
    have none_ := List.any_eq_false.mp (idleContext_none_iff.mp found) k (by fin_cases k <;> decide)
    exact absurd (decide_eq_true idle) none_
  | some m =>
    obtain ⟨first, before⟩ := find?_of_rising (l := allContexts) (by decide) (by decide) found
    obtain lower | rfl | higher := lt_trichotomy m k
    · exact absurd (of_decide_eq_true first) (lowest m lower)
    · rfl
    · exact absurd idle (of_decide_eq_false (before k higher))

theorem probeStartBody_of_no_refusal {mode : ProbeMode} {pattern : Pattern} {k : ContextId} {i : ReservedIndex}
    (passes : (probeStartBody s).refusal = none) (mode_ : ProbeMode.ofCode (bits s.host.args.q0 4 2) = some mode)
    (pattern_ : Pattern.ofCode (bits s.host.args.q0 0 3) = some pattern) (idle : idleContext s = some k)
    (allocated : allocateIndex s (rowOperand s.host.args.q3).device = some i) :
    probeStartBody s = .accepted (startProbe (probeOperand s.host.args s.host.patternArgs) mode pattern k i s) := by
  have modeOf : (probeOperand s.host.args s.host.patternArgs).mode = ProbeMode.ofCode (bits s.host.args.q0 4 2) := rfl
  have patternOf : (probeOperand s.host.args s.host.patternArgs).pattern = Pattern.ofCode (bits s.host.args.q0 0 3) := rfl
  have target : (probeOperand s.host.args s.host.patternArgs).target = rowOperand s.host.args.q3 := rfl
  unfold probeStartBody at passes ⊢
  dsimp only at passes ⊢
  rw [modeOf, patternOf, mode_, pattern_] at passes ⊢
  dsimp only at passes ⊢
  obtain ⟨valid, passes⟩ := ite_refused_of_none passes
  obtain ⟨free, passes⟩ := ite_refused_of_none passes
  obtain ⟨cool, -⟩ := ite_refused_of_none passes
  refine valid.trans (free.trans (cool.trans ?_))
  rw [idle, target]
  dsimp only
  rw [allocated]

theorem wordBytes_eq (w : Word) : wordBytes w = [BitVec.ofNat 8 (w.toNat % 256), BitVec.ofNat 8 (w.toNat / 256)] := by
  have low : w.extractLsb' 0 8 = BitVec.ofNat 8 (w.toNat % 256) := by
    apply BitVec.eq_of_toNat_eq
    simp
  have high : w.extractLsb' 8 8 = BitVec.ofNat 8 (w.toNat / 256) := by
    apply BitVec.eq_of_toNat_eq
    simp [Nat.shiftRight_eq_div_pow]
  rw [wordBytes, low, high]

/-- Settles O56. -/
theorem probeStartAccepted : Obligations.ProbeStartAccepted := by
  intro s k i mode pattern passes idle lowest row w allocated mode_ pattern_
  have ready := isReady_of_no_refusal passes
  have verdict := probeStartBody_of_no_refusal (s := { s with host := { s.host with command := 1 } })
    ((probeStartBody_refusal (s := { s with host := { s.host with command := 1 } }) ready).trans passes) mode_ pattern_
    (idleContext_of_lowest (s := { s with host := { s.host with command := 1 } }) idle lowest) allocated
  refine (exec_command_of_accepted (code := 1) ready verdict).trans ?_
  have user : (probeOperand s.host.args s.host.patternArgs).userPattern =
      [s.host.patternArgs.q0, s.host.patternArgs.q1, s.host.patternArgs.q2, s.host.patternArgs.q3].flatMap
        (fun p => [BitVec.ofNat 8 (p.toNat % 256), BitVec.ofNat 8 (p.toNat / 256)]) := by
    show wordBytes _ ++ wordBytes _ ++ wordBytes _ ++ wordBytes _ = _
    rw [wordBytes_eq, wordBytes_eq, wordBytes_eq, wordBytes_eq]
    rfl
  rw [← user]
  cases mode <;> rfl

end Sys2Proof.Machine
end

section
/-! PROOFS. PROBE ABORT (R134 to R136). -/

namespace Sys2Proof.Machine
open Sys2Proof

variable {s t : State}

/-- A context in PARKING has a PARK job in the queue (R105, R118). -/
theorem Bound.park_job (law : Bound s) {k : ContextId} (parking : (contextOf s k).state = .parking) :
    ∃ before j after, s.copy.queue = before ++ j :: after ∧ j.kind = .park ∧ j.owner = .context k ∧
      (∀ j ∈ before, isParkOf k j = false) ∧ s.copy.queue.find? (isParkOf k) = some j := by
  obtain ⟨progress, -, jobs⟩ := (law.context k).jobs
  have listed : CopyJob.mk .park (contextOf s k).target (contextOf s k).parkIndex (.context k) progress ∈
      jobsOf s (.context k) := by
    rw [jobs, contextJobs, parking]
    exact List.mem_singleton_self _
  obtain ⟨mem, -⟩ := mem_jobsOf.mp listed
  have found : (s.copy.queue.find? (isParkOf k)).isSome = true :=
    List.find?_isSome.mpr ⟨_, mem, by simp [isParkOf]⟩
  obtain ⟨j, first⟩ := Option.isSome_iff_exists.mp found
  obtain ⟨isPark, before, after, eq, none_⟩ := List.find?_eq_some_iff_append.mp first
  simp only [isParkOf, Bool.and_eq_true, beq_iff_eq] at isPark
  exact ⟨before, j, after, eq, isPark.1, isPark.2, fun j mem => by simpa using none_ j mem, first⟩

theorem head?_any_append_cons {α : Type} {p : α → Bool} {before after : List α} {a : α} (here : p a = true)
    (none_ : ∀ b ∈ before, p b = false) : (before ++ a :: after).head?.any p = decide (before = []) := by
  cases before with
  | nil => simpa using here
  | cons b rest => simpa using none_ b List.mem_cons_self

theorem probeAbortBody_of_abortable {k : ContextId} (argument : s.host.args.q0.toNat = k.val)
    (stops : abortable (contextOf s k).state = true) : probeAbortBody s = .accepted (abortContext .host k s) := by
  have same : (Fin.ofNat 4 s.host.args.q0.toNat : ContextId) = k := by
    rw [argument]
    exact Fin.ext (Nat.mod_eq_of_lt k.isLt)
  unfold probeAbortBody
  rw [if_neg (by omega)]
  dsimp only
  rw [same, if_pos stops]

theorem exec_probeAbort {k : ContextId} (ready : isReady s = true) (argument : s.host.args.q0.toNat = k.val)
    (stops : abortable (contextOf s k).state = true) : exec .probeAbort s =
      .next (arbitrate (setCommandStatus .accepted (abortContext .host k { s with host := { s.host with command := 2 } }))) :=
  exec_command_of_accepted (code := 2) ready
    (probeAbortBody_of_abortable (s := { s with host := { s.host with command := 2 } }) argument stops)

/-- The entries after the abort of a context: its own alone is another (R135, R136). -/
theorem JobAborted.entries {k : ContextId} (aborted : JobAborted k s t) (law : Bound s) {state : RedirectState}
    (park : (contextOf s k).state.park = some state) :
    redirectAt t (contextOf s k).parkIndex =
      abortedEntry { home := (contextOf s k).target, state := state, owner := .context k } ∧
      ∀ i, i ≠ (contextOf s k).parkIndex → redirectAt t i = redirectAt s i := by
  constructor
  · rw [aborted.entry, (law.context k).entry state park]
    exact if_pos rfl
  · intro i other
    rw [aborted.entry]
    cases at_ : redirectAt s i with
    | none => rfl
    | some e =>
      rw [Option.bind_some, if_neg fun owner => other (law.owned_entry at_ owner).1]

/-- Settles O57. -/
theorem probeAbortAccepted : Obligations.ProbeAbortAccepted := by
  intro s k ready law argument
  have bound : Bound { s with host := { s.host with command := 2 } } := (probeLaw_iff.mp law).2.of_moves (.of_eq rfl)
  have aborted := abortContext_jobAborted bound .host k
  have records := (abortContext_probeChange { s with host := { s.host with command := 2 } } .host k).records
  constructor
  · intro parking
    obtain ⟨before, j, after, queue, kind, owner, none_, first⟩ := bound.park_job (k := k) parking
    have isPark : isParkOf k j = true := List.find?_some first
    obtain ⟨gone, others⟩ := aborted.entries bound (ContextState.park_eq_parkCopying.mpr parking)
    obtain ⟨contexts, log, waiting, host⟩ := abortParking_done (s := { s with host := { s.host with command := 2 } })
      (reason := .host) (by decide) k
    have parks : abortContext .host k { s with host := { s.host with command := 2 } } =
        abortParking .host k { s with host := { s.host with command := 2 } } := by
      have here : (contextOf { s with host := { s.host with command := 2 } } k).state = .parking := parking
      unfold abortContext
      rw [here]
    have copy : (abortContext .host k { s with host := { s.host with command := 2 } }).copy = { s.copy with
        queue := before ++ after, engine := markAbandoned (decide (before = [])) s.copy.engine } := by
      have head : s.copy.queue.head?.any (isParkOf k) = decide (before = []) := by
        rw [queue]
        exact head?_any_append_cons isPark none_
      have rest : s.copy.queue.eraseP (isParkOf k) = before ++ after := by
        rw [queue, List.eraseP_append_right _ fun b mem => by rw [none_ b mem]; decide, List.eraseP_cons_of_pos isPark]
      rw [parks, (abortParking_ends .host k).copy, setContext_copy, abandonJob_eq first, ← head, ← rest]
    rw [← parks] at contexts log waiting host
    have here := (contexts k).trans (if_pos rfl)
    generalize aborted_ : abortContext .host k { s with host := { s.host with command := 2 } } = u at *
    refine ⟨setCommandStatus .accepted u, before, j, after, ?_, queue, kind, owner, congrArg CopyEngine.queue copy, gone, others,
      fun engine => ?_, congrArg ProbeContext.abortReason here, records, fun m other => (contexts m).trans (if_neg other), ?_,
      fun room => ⟨?_, waiting.trans (if_pos room), ?_⟩, fun full => ⟨?_, ?_, waiting.trans (if_neg (Nat.not_lt.mpr full))⟩⟩
    · rw [← aborted_]
      exact exec_probeAbort ready argument (by rw [parking]; rfl)
    · have marked := congrArg CopyEngine.engine copy
      rw [engine] at marked
      exact marked
    · rw [setCommandStatus_host, host]
      split_ifs <;> rfl
    · exact (congrArg ProbeContext.state here).trans (if_pos room)
    · rw [if_pos room] at log
      exact log
    · exact (congrArg ProbeContext.state here).trans (if_neg (Nat.not_lt.mpr full))
    · rw [if_neg (Nat.not_lt.mpr full)] at log
      exact log.trans (List.append_nil _)
  · intro holds
    have held : (contextOf s k).state.park = some .parkHeld := ContextState.park_eq_parkHeld.mpr holds
    have stops : abortable (contextOf s k).state = true := by
      obtain state | state | state := holds <;> rw [state] <;> rfl
    have runs : abortContext .host k { s with host := { s.host with command := 2 } } =
        abortRunning .host k { s with host := { s.host with command := 2 } } := by
      have same : contextOf { s with host := { s.host with command := 2 } } k = contextOf s k := rfl
      unfold abortContext
      rw [same]
      obtain state | state | state := holds <;> rw [state]
    obtain ⟨entry, -⟩ := aborted.entries bound held
    have contexts := contextOf_abortRunning (s := { s with host := { s.host with command := 2 } }) .host k
    refine ⟨_, exec_probeAbort ready argument stops, ?_, fun m other => ?_, ?_, entry, records, ?_, ?_⟩
    · rw [runs]
      exact (contexts k).trans (if_pos rfl)
    · rw [runs]
      exact (contexts m).trans (if_neg other)
    · rw [runs]
      show (abortRunning .host k _).copy.queue = _
      unfold abortRunning
      rw [beginRestore_eq, contextOf_setContext_same]
      rfl
    · rw [runs]
      exact (abortRunning_log .host k).1
    · rw [runs, setCommandStatus_host, abortRunning_host]

end Sys2Proof.Machine
end

section
/-! PROOFS. The soft reset (R97, R111, R115, R138, R168, R169). -/

namespace Sys2Proof.Machine
open Sys2Proof

variable {s : State}

theorem softResetAborts_controller : (softResetAborts s).controller = some .resetting := by
  rw [softResetAborts, (abortAll_probeChange _ _).controller]
  exact (abandonJob_probeChange _ _).controller

theorem softResetEffects_records : (softResetEffects s).records = s.records := by
  rw [softResetEffects_eq, testUnwind_records]
  show (softResetAborts s).records = s.records
  rw [softResetAborts, (abortAll_probeChange _ _).records]
  exact (abandonJob_probeChange _ _).records

/-- A context in RESTORING has a job in the copy queue (R105, R118). -/
theorem Bound.queue_of_restoring (law : Bound s) {k : ContextId} (restoring : (contextOf s k).state = .restoring) :
    s.copy.queue ≠ [] := by
  obtain ⟨progress, -, jobs⟩ := (law.context k).jobs
  intro empty
  rw [contextJobs, restoring, jobsOf, empty] at jobs
  cases jobs

theorem withEvents_clearHost {t : State} {host : HostInterface} (flags : BitVec 10) (cleared : t.host = clearHost host) :
    (withEvents flags t).host = { clearHost host with events := flags, interrupt := false } := by
  have set_ : (0 : BitVec 10) ||| flags = flags := BitVec.zero_or
  have masked : flags &&& (0 : BitVec 10) = 0 := BitVec.and_zero
  unfold withEvents
  rw [cleared]
  simp only [clearHost, set_, masked, ne_eq, not_true_eq_false, decide_false]

/-- Whether the unwind ends with the write that begins it is a matter of the copy queue (R169). -/
theorem softResetEffects_ended (law : Bound s) :
    ((softResetEffects s).copy.queue = [] → (softResetEffects s).controller = some .ready ∧
      (softResetEffects s).host.events = 0x002#10) ∧
    ((softResetEffects s).copy.queue ≠ [] → (softResetEffects s).controller = some .resetting ∧
      (softResetEffects s).host.events = 0#10) := by
  have unready := Unready.of_softReset law
  have after := law.of_moves softResetEffects_moves
  rw [softResetEffects_eq] at unready after ⊢
  have resetting : (softResetAborts s).controller = some .resetting := softResetAborts_controller
  obtain ⟨ended, eq⟩ | ⟨-, eq⟩ := testUnwind_cases { softResetAborts s with host := clearHost (softResetAborts s).host }
  · have empty : (softResetAborts s).copy.queue = [] := by
      simp only [unwindEnded, Bool.and_eq_true, List.isEmpty_iff] at ended
      exact ended.2
    rw [eq]
    refine ⟨fun _ => ⟨rfl, ?_⟩, fun jobs => absurd empty jobs⟩
    exact congrArg HostInterface.events (withEvents_clearHost (t := { softResetAborts s with
      controller := some .ready, host := clearHost (softResetAborts s).host }) 0x002#10 rfl)
  · rw [eq] at unready after ⊢
    unfold Unready at unready
    rw [resetting] at unready
    obtain ⟨-, -, -, k, restoring⟩ := unready
    exact ⟨fun empty => absurd empty (after.queue_of_restoring restoring), fun _ => ⟨resetting, rfl⟩⟩

/-- The host interface after the write: all that the host reads is cleared, RESET_DONE apart (R168, R169). -/
theorem softResetEffects_host : ∃ events, (softResetEffects s).host =
    { clearHost (softResetAborts s).host with events := events, interrupt := false } := by
  rw [softResetEffects_eq, testUnwind_eq]
  dsimp only
  split
  · exact ⟨0x002#10, withEvents_clearHost 0x002#10 rfl⟩
  · exact ⟨0#10, rfl⟩

/-- Settles O50. -/
theorem softResetWrite : Obligations.SoftResetWrite := by
  refine fun s value => ⟨fun ready set_ law => ?_, fun idle => ?_⟩
  · have bound := (probeLaw_iff.mp law).2
    have logs := (probeLaw_iff.mp law).1
    have next : exec (.softReset value) s = .next (arbitrate (softResetEffects s)) := by
      show Host.Outcome.next (whenRunning (writeControl value) s) = _
      rw [whenRunning_of_running (running_of_isReady ready), writeControl, set_, ready]
      rfl
    have aborted := softResetEffects_resetAborted bound
    obtain ⟨contexts, log, waiting, copy, entries⟩ := id aborted
    have stopped := (softReset_contexts logs).1
    have after := bound.of_moves softResetEffects_moves
    obtain ⟨events, host⟩ := softResetEffects_host (s := s)
    obtain ⟨ended, goes⟩ := softResetEffects_ended bound
    refine ⟨_, next, softResetEffects_requests s, aborted, fun k => ⟨fun home => ?_, fun notIdle notParking notDone => ?_⟩,
      fun j mem => ?_, fun p mem => ?_, fun i e at_ active => ?_, by rw [host]; rfl, by rw [host]; rfl, by rw [host]; rfl,
      by rw [host]; rfl, by rw [host]; rfl, by rw [host]; rfl, by rw [host]; rfl, by rw [host], ended, goes,
      softResetEffects_scheduler s, softResetEffects_records, softResetEffects_supervisor s, softResetEffects_config s,
      softResetEffects_port s, softResetEffects_array s, softResetEffects_deviceCount s⟩
    · rw [contexts]
      obtain state | state | state := home
      · simp only [state]
      · simp only [state]
      · simp only [state]
    · rw [← and_assoc]
      refine ⟨?_, (stopped k).2⟩
      rw [contexts]
      split
      · exact absurd ‹_› notIdle
      · exact absurd ‹_› notParking
      · exact ⟨rfl, rfl⟩
      · exact ⟨rfl, rfl⟩
      · exact ⟨rfl, rfl⟩
      · exact ⟨‹_›, rfl⟩
      · exact absurd ‹_› notDone
    · rw [copy, List.mem_append] at mem
      obtain kept | returned := mem
      · exact of_decide_eq_true (List.mem_filter.mp kept).2
      · obtain ⟨k, -, rfl⟩ := List.mem_map.mp returned
        rfl
    · obtain ⟨index, entry⟩ := p
      obtain ⟨i, -, at_⟩ := exists_index_of_mem after.table mem
      rw [entries] at at_
      cases old : redirectAt s i with
      | none =>
        rw [old] at at_
        cases at_
      | some e =>
        rw [old] at at_
        cases state : e.state <;> simp only [state] at at_ <;> cases at_
        · exact .inl rfl
        · exact .inl state
        · exact .inr state
    · rw [entries, at_]
      simp only [active]
  · show Host.Outcome.next (whenRunning (writeControl value) s) = _
    have off : (value.getLsbD 0 && isReady s) = false := by
      obtain unready | clear := idle
      · rw [unready, Bool.and_false]
      · rw [clear, Bool.false_and]
    have same : ∀ t : State, t = s → writeControl value t = s := fun t eq => by
      rw [eq, writeControl, off]
      rfl
    unfold whenRunning
    split_ifs
    · rw [same s rfl]
    · rfl

end Sys2Proof.Machine
end

section
/-! PROOFS. The plain register writes, and what every register reads as (R75, R79, R94, R156, R164, R170). -/

namespace Sys2Proof.Machine
open Sys2Proof

variable {s : State}

/-! ### Which write a plain one is -/

/-- An address is a request field register's or an argument register's. -/
def holdsField (address : BitVec 6) : Prop :=
  (0x10 ≤ address.toNat ∧ address.toNat ≤ 0x14) ∨ (0x22 ≤ address.toNat ∧ address.toNat ≤ 0x29)

theorem plainRegisterWrite_toNat {address : BitVec 6} {value : Word} (plain : plainRegisterWrite address value = true) :
    (address.toNat = 5 → value.getLsbD 0 = false) ∧ address.toNat ∉ [2, 3, 6, 7, 8, 9, 10, 11, 12, 21, 22, 28, 32] := by
  simp only [plainRegisterWrite, ownWriteAddresses, Bool.and_eq_true, Bool.not_eq_true', List.contains_eq_mem,
    decide_eq_false_iff_not, Bool.and_eq_false_iff, beq_eq_false_iff_ne, ne_eq, List.mem_cons, List.not_mem_nil, or_false,
    ← BitVec.toNat_inj] at plain ⊢
  exact ⟨fun control => plain.2.resolve_left (not_not.mpr control), plain.1⟩

theorem writeRequestField_of_other {address : BitVec 6} (value : Word) (e : RequestEngine) (other : ¬ holdsField address) :
    writeRequestField address value e = e := by
  unfold holdsField at other
  unfold writeRequestField
  split
  case h_6 => rfl
  all_goals omega

theorem writeArgument_of_other {address : BitVec 6} (value : Word) (h : HostInterface) (other : ¬ holdsField address) :
    writeArgument address value h = h := by
  unfold holdsField at other
  unfold writeArgument
  split
  case h_9 => rfl
  all_goals omega

theorem storeRegister_of_other {address : BitVec 6} (value : Word) (other : ¬ holdsField address) :
    storeRegister address value s = s := by
  unfold storeRegister
  rw [writeRequestField_of_other value _ other, writeArgument_of_other value _ other]

theorem writeRegister_of_plain {address : BitVec 6} {value : Word} (plain : plainRegisterWrite address value = true) :
    writeRegister address value s = storeRegister address value s := by
  obtain ⟨control, own⟩ := plainRegisterWrite_toNat plain
  simp only [List.mem_cons, List.not_mem_nil, or_false, not_or] at own
  unfold writeRegister
  split
  case h_3 at_ =>
    rw [storeRegister_of_other value (by unfold holdsField; omega), writeControl, control at_]
    rfl
  case h_15 => rfl
  all_goals omega

/-! ### What a plain write leaves -/

theorem writeRequestField_frame (address : BitVec 6) (value : Word) (e : RequestEngine) : writeRequestField address value e =
    { e with
      kindField := (writeRequestField address value e).kindField, deviceField := (writeRequestField address value e).deviceField
      rowField := (writeRequestField address value e).rowField, columnField := (writeRequestField address value e).columnField
      lengthField := (writeRequestField address value e).lengthField, tagField := (writeRequestField address value e).tagField
      fillField := (writeRequestField address value e).fillField } := by
  unfold writeRequestField
  split <;> rfl

theorem writeArgument_frame (address : BitVec 6) (value : Word) (h : HostInterface) : writeArgument address value h =
    { h with args := (writeArgument address value h).args, patternArgs := (writeArgument address value h).patternArgs } := by
  unfold writeArgument
  split <;> rfl

/-- A request field register's fields change at its own address alone. -/
theorem writeRequestField_other (address : BitVec 6) (value : Word) (e : RequestEngine) :
    (address.toNat ≠ 0x10 → (writeRequestField address value e).kindField = e.kindField ∧
      (writeRequestField address value e).deviceField = e.deviceField) ∧
    (address.toNat ≠ 0x11 → (writeRequestField address value e).rowField = e.rowField) ∧
    (address.toNat ≠ 0x12 → (writeRequestField address value e).columnField = e.columnField) ∧
    (address.toNat ≠ 0x13 → (writeRequestField address value e).lengthField = e.lengthField) ∧
    (address.toNat ≠ 0x14 → (writeRequestField address value e).tagField = e.tagField ∧
      (writeRequestField address value e).fillField = e.fillField) := by
  unfold writeRequestField
  split <;> simp_all

/-- An argument register changes at its own address alone. -/
theorem writeArgument_other (address : BitVec 6) (value : Word) (h : HostInterface) :
    (address.toNat ≠ 0x22 → (writeArgument address value h).args.q0 = h.args.q0) ∧
    (address.toNat ≠ 0x23 → (writeArgument address value h).args.q1 = h.args.q1) ∧
    (address.toNat ≠ 0x24 → (writeArgument address value h).args.q2 = h.args.q2) ∧
    (address.toNat ≠ 0x25 → (writeArgument address value h).args.q3 = h.args.q3) ∧
    (address.toNat ≠ 0x26 → (writeArgument address value h).patternArgs.q0 = h.patternArgs.q0) ∧
    (address.toNat ≠ 0x27 → (writeArgument address value h).patternArgs.q1 = h.patternArgs.q1) ∧
    (address.toNat ≠ 0x28 → (writeArgument address value h).patternArgs.q2 = h.patternArgs.q2) ∧
    (address.toNat ≠ 0x29 → (writeArgument address value h).patternArgs.q3 = h.patternArgs.q3) := by
  unfold writeArgument
  split <;> simp_all

theorem storeRegister_frame (address : BitVec 6) (value : Word) : storeRegister address value s = { s with
    host := { s.host with
      args := (writeArgument address value s.host).args, patternArgs := (writeArgument address value s.host).patternArgs }
    requests := { s.requests with
      kindField := (writeRequestField address value s.requests).kindField
      deviceField := (writeRequestField address value s.requests).deviceField
      rowField := (writeRequestField address value s.requests).rowField
      columnField := (writeRequestField address value s.requests).columnField
      lengthField := (writeRequestField address value s.requests).lengthField
      tagField := (writeRequestField address value s.requests).tagField
      fillField := (writeRequestField address value s.requests).fillField } } := by
  unfold storeRegister
  rw [← writeRequestField_frame, ← writeArgument_frame]

/-- The registers that hold no field read as before. -/
theorem registerValue_storeRegister_plain (address other : BitVec 6) (value : Word) (plain : ¬ holdsField other) :
    registerValue (storeRegister address value s) other = registerValue s other := by
  unfold holdsField at plain
  rw [storeRegister_frame]
  unfold registerValue
  split
  case h_13 | h_14 | h_15 | h_16 | h_17 | h_25 | h_26 | h_27 | h_28 | h_29 | h_30 | h_31 | h_32 => omega
  all_goals rfl

theorem registerValue_storeRegister_other {address other : BitVec 6} (value : Word) (distinct : other.toNat ≠ address.toNat) :
    registerValue (storeRegister address value s) other = registerValue s other := by
  by_cases field : holdsField other
  · obtain ⟨kind, row, column, length, tag⟩ := writeRequestField_other address value s.requests
    obtain ⟨a0, a1, a2, a3, a4, a5, a6, a7⟩ := writeArgument_other address value s.host
    unfold holdsField at field
    obtain at_ | at_ | at_ | at_ | at_ | at_ | at_ | at_ | at_ | at_ | at_ | at_ | at_ : other.toNat = 0x10 ∨
        other.toNat = 0x11 ∨ other.toNat = 0x12 ∨ other.toNat = 0x13 ∨ other.toNat = 0x14 ∨ other.toNat = 0x22 ∨
        other.toNat = 0x23 ∨ other.toNat = 0x24 ∨ other.toNat = 0x25 ∨ other.toNat = 0x26 ∨ other.toNat = 0x27 ∨
        other.toNat = 0x28 ∨ other.toNat = 0x29 := by omega
    all_goals
      rw [at_] at distinct
      simp only [registerValue, at_, storeRegister]
    · rw [(kind distinct.symm).1, (kind distinct.symm).2]
    · rw [row distinct.symm]
    · rw [column distinct.symm]
    · rw [length distinct.symm]
    · rw [(tag distinct.symm).1, (tag distinct.symm).2]
    · exact a0 distinct.symm
    · exact a1 distinct.symm
    · exact a2 distinct.symm
    · exact a3 distinct.symm
    · exact a4 distinct.symm
    · exact a5 distinct.symm
    · exact a6 distinct.symm
    · exact a7 distinct.symm
  · exact registerValue_storeRegister_plain address other value field

/-! ### What a plain write is read back as -/

/-- A word of two fields, bit by bit. -/
theorem getLsbD_fields {a b k i : Nat} (low : BitVec a) (high : BitVec b) (fits : a ≤ k) (inside : i < 16) :
    (BitVec.ofNat 16 (low.toNat + high.toNat * 2 ^ k)).getLsbD i = if i < k then low.getLsbD i else high.getLsbD (i - k) := by
  have bound : low.toNat < 2 ^ k := lt_of_lt_of_le low.isLt (Nat.pow_le_pow_right (by decide) fits)
  rw [BitVec.getLsbD_ofNat, decide_eq_true inside, Bool.true_and, Nat.add_comm, Nat.mul_comm,
    Nat.testBit_two_pow_mul_add _ bound]
  rfl

theorem wordOf_setWidth (value : Word) {w : Nat} (mask : Word)
    (masks : ∀ i, i < 16 → mask.getLsbD i = decide (i < w)) : wordOf (value.setWidth w).toNat = value &&& mask := by
  refine BitVec.eq_of_getLsbD_eq fun i inside => ?_
  rw [BitVec.getLsbD_and, masks i inside, wordOf, BitVec.ofNat_toNat, BitVec.getLsbD_setWidth, BitVec.getLsbD_setWidth,
    decide_eq_true inside, Bool.true_and, Bool.and_comm]

/-- RQ_KIND's word: the kind in bits 0 to 2, the device in bits 4 and 5 (Table 10-5). -/
theorem wordOf_kind (value : Word) :
    wordOf ((value.setWidth 3).toNat + (value.extractLsb' 4 2).toNat * 16) = value &&& 0x0037 := by
  refine BitVec.eq_of_getLsbD_eq fun i inside => ?_
  refine (getLsbD_fields (k := 4) (value.setWidth 3) (value.extractLsb' 4 2) (by decide) inside).trans ?_
  rw [BitVec.getLsbD_and, BitVec.getLsbD_setWidth, BitVec.getLsbD_extractLsb']
  interval_cases i <;> simp

/-- RQ_TAG's word: the tag in the low byte, the fill byte in the high one (Table 10-5). -/
theorem wordOf_tag (value : Word) :
    wordOf ((value.setWidth 8).toNat + (value.extractLsb' 8 8).toNat * 256) = value := by
  refine BitVec.eq_of_getLsbD_eq fun i inside => ?_
  refine (getLsbD_fields (k := 8) (value.setWidth 8) (value.extractLsb' 8 8) (by decide) inside).trans ?_
  rw [BitVec.getLsbD_setWidth, BitVec.getLsbD_extractLsb']
  interval_cases i <;> simp

/-- The bits of a field register that are assigned (Table 10-5); an argument register has all sixteen. -/
def assignedBits (address : BitVec 6) : Word :=
  match address.toNat with
  | 0x10 => 0x0037
  | 0x11 => 0x03FF
  | 0x12 => 0x00FF
  | 0x13 => 0x01FF
  | 0x14 => 0xFFFF
  | _ => 0xFFFF

theorem registerValue_storeRegister_same {address : BitVec 6} (value : Word) (field : holdsField address) :
    registerValue (storeRegister address value s) address = value &&& assignedBits address := by
  have all : value &&& 0xFFFF = value := BitVec.and_allOnes
  unfold holdsField at field
  obtain at_ | at_ | at_ | at_ | at_ | at_ | at_ | at_ | at_ | at_ | at_ | at_ | at_ : address.toNat = 0x10 ∨
      address.toNat = 0x11 ∨ address.toNat = 0x12 ∨ address.toNat = 0x13 ∨ address.toNat = 0x14 ∨ address.toNat = 0x22 ∨
      address.toNat = 0x23 ∨ address.toNat = 0x24 ∨ address.toNat = 0x25 ∨ address.toNat = 0x26 ∨ address.toNat = 0x27 ∨
      address.toNat = 0x28 ∨ address.toNat = 0x29 := by omega
  all_goals simp only [registerValue, storeRegister, writeRequestField, writeArgument, assignedBits, at_]
  · exact wordOf_kind value
  · exact wordOf_setWidth value 0x03FF (by decide)
  · exact wordOf_setWidth value 0x00FF (by decide)
  · exact wordOf_setWidth value 0x01FF (by decide)
  · exact (wordOf_tag value).trans all.symm
  all_goals exact all.symm

end Sys2Proof.Machine
end

section
/-! PROOFS. What every register of the window reads as (Tables 10-1, 10-6 and 10-8a). -/

namespace Sys2Proof.Machine
open Sys2Proof

variable {s : State}

theorem readRegister_of_running (run : running s = true) (address : BitVec 6) :
    readRegister s address = registerValue s address := by
  rw [readRegister, run]
  rfl

theorem running_storeRegister (address : BitVec 6) (value : Word) (run : running s = true) :
    running (storeRegister address value s) = true := run

/-- The unassigned and the write-only addresses read 0 (R164). -/
theorem registerValue_of_unassigned {address : BitVec 6}
    (unassigned : address ∈ ([0x05, 0x0D, 0x0E, 0x0F, 0x15, 0x16, 0x1C, 0x1D, 0x1E, 0x1F, 0x2E, 0x2F] : List (BitVec 6)) ∨
      0x36 ≤ address.toNat) : registerValue s address = 0 := by
  have number : address.toNat ∈ [5, 13, 14, 15, 21, 22, 28, 29, 30, 31, 46, 47] ∨ 54 ≤ address.toNat := by
    refine unassigned.imp_left fun mem => ?_
    simpa [← BitVec.toNat_inj] using mem
  simp only [List.mem_cons, List.not_mem_nil, or_false] at number
  unfold registerValue
  split
  case h_43 => rfl
  all_goals omega

theorem registerValue_state {state : Controller} (controller : s.controller = some state) : registerValue s 0x01 =
    BitVec.ofNat 16 (state.code + 16 * bit s.scheduler.forced + 256 * s.supervisor.thermal.code + 4096 * s.deviceCount) := by
  show wordOf ((s.controller.map Controller.code).getD 0 + bit s.scheduler.forced * 16 + s.supervisor.thermal.code * 256 +
    s.deviceCount * 4096) = _
  rw [controller, Nat.mul_comm 16, Nat.mul_comm 256, Nat.mul_comm 4096]
  rfl

theorem registerValue_completionData : registerValue s 0x1B = BitVec.ofNat 16 (((headData s).getD s.requests.cursor 0).toNat +
    256 * ((headData s).getD (s.requests.cursor + 1) 0).toNat) := by
  rw [← completionData_toNat, BitVec.ofNat_toNat, BitVec.setWidth_eq]
  rfl

theorem registerValue_mean {mean : Int} (full : 4 ≤ s.supervisor.window.length) (low : 4 * mean ≤ s.supervisor.window.sum)
    (high : s.supervisor.window.sum < 4 * mean + 4) : registerValue s 0x31 = BitVec.ofInt 16 mean := by
  have readings : ¬ s.supervisor.window.length < Config.windowReadings := Nat.not_lt.mpr full
  have floor : windowMean s.supervisor.window = mean := by
    unfold windowMean
    omega
  show signedWord (temperatureMean s) = _
  rw [temperatureMean, if_neg readings, floor]
  rfl

theorem registerValue_no_mean (few : s.supervisor.window.length < 4) : registerValue s 0x31 = BitVec.ofInt 16 (-128) := by
  have readings : s.supervisor.window.length < Config.windowReadings := few
  show signedWord (temperatureMean s) = _
  rw [temperatureMean, if_pos readings]
  rfl

/-- Settles O53. -/
theorem plainRegisterWrites : Obligations.PlainRegisterWrites := by
  refine ⟨fun s address value run plain => ?_, fun s address low => readRegister_of_low low address, fun s run => ?_⟩
  · intro mask
    have next : exec (.registerWrite address value) s = .next (storeRegister address value s) := by
      show Host.Outcome.next (whenRunning (writeRegister address value) s) = _
      rw [whenRunning_of_running run, writeRegister_of_plain plain]
    refine ⟨fun field => ⟨_, next, ?_, fun other distinct => ?_, ?_⟩, fun other => ?_⟩
    · have masks : mask = assignedBits address := rfl
      rw [readRegister_of_running (running_storeRegister address value run), masks]
      exact registerValue_storeRegister_same value field
    · rw [readRegister_of_running (running_storeRegister address value run), readRegister_of_running run]
      exact registerValue_storeRegister_other value fun same => distinct (BitVec.eq_of_toNat_eq same)
    · have frame := storeRegister_frame (s := s) address value
      rw [frame]
    · rw [next, storeRegister_of_other value other]
  · intro flag
    have read := readRegister_of_running run
    simp only [read]
    refine ⟨rfl, fun state controller => (registerValue_state controller).trans ?_, rfl, rfl, ?_, rfl, ?_, rfl, rfl, rfl, rfl,
      ?_, ?_, rfl, rfl, rfl, ?_, rfl, rfl, fun empty => ?_, fun c rest head => ?_, rfl, ?_, rfl, rfl, rfl, rfl, rfl, rfl, rfl, rfl,
      rfl, rfl, rfl, rfl, rfl, registerValue_no_mean, fun full mean low high => registerValue_mean full low high, rfl, rfl,
      rfl, rfl, fun address => registerValue_of_unassigned⟩
    · rfl
    · show wordOf s.host.error.code = _
      cases s.host.error <;> rfl
    · rw [Nat.mul_comm 32768]
      rfl
    · rw [Nat.mul_comm 256, Nat.mul_comm 4096]
      rfl
    · rw [Nat.mul_comm 16]
      rfl
    · rw [Nat.mul_comm 256]
      rfl
    · have data := registerValue_completionData (s := s)
      rw [headData_eq, empty] at data
      refine ⟨?_, ?_, data⟩
      · show (s.requests.completions.head?.map (fun c => c.tag.setWidth 16)).getD 0 = 0
        rw [empty]
        rfl
      · show (s.requests.completions.head?.map completionWord).getD 0 = 0
        rw [empty]
        rfl
    · have data := registerValue_completionData (s := s)
      rw [headData_eq, head] at data
      refine ⟨?_, ?_, data⟩
      · show (s.requests.completions.head?.map (fun c => c.tag.setWidth 16)).getD 0 = _
        rw [head]
        rfl
      · show (s.requests.completions.head?.map completionWord).getD 0 = _
        rw [head, Nat.mul_comm 4096, Nat.mul_comm 16384]
        rfl
    · show wordOf s.host.status.code = _
      cases s.host.status <;> rfl

end Sys2Proof.Machine
end
